-- ==== Sys2Proof/Word.lean ====
section
/-! DEFINITION. The word the host and the output port see (spec/00_scope.md, 0.5): sixteen bits. -/

namespace Sys2Proof

/-- A word of the host bus, of a table space or of a record: 16 bits, bit 0 the least significant. -/
abbrev Word := BitVec 16

end Sys2Proof
end

