-- ==== Sys2Proof/Syntax.lean ====
section
/-! DEFINITION. The commands of the block: one constructor for each row of spec/opcode_table.json. -/

namespace Sys2Proof

/-- The direction of an edge of PCM_CLK, and the value of the CLOCK_EDGE field (R7, Table 12-2). -/
inductive ClockEdge where
  | rising
  | falling
  deriving DecidableEq, Repr

/-- One happening of the spec, with the levels or the word it brings from outside. -/
inductive Instr where
  /-- RESET# is asserted (R180). -/
  | resetAssert
  /-- RESET# is released (R180). -/
  | resetRelease
  /-- An edge of PCM_CLK in the direction `edge`, with PCM_DATA high when `level` (R7). -/
  | bitArrival (edge : ClockEdge) (level : Bool)
  /-- The loss timer expires (R9). -/
  | clockLoss
  /-- A validation ends (R71). -/
  | validationEnd
  /-- The port stall timer expires (R155). -/
  | portStallExpiry
  /-- The falling edge of RO_CLK at which the port may begin the head record, with RO_RDY high when
  `rdy` (R152). -/
  | portRecordBegin (rdy : Bool)
  /-- The falling edge of RO_CLK that ends bit 0 of the word in flight, with RO_RDY high when `rdy`
  (R153). -/
  | portWordBoundary (rdy : Bool)
  /-- In PAUSED, the first falling edge of RO_CLK that finds RO_RDY high (R154). -/
  | portPauseEnd
  /-- A falling edge of RO_CLK inside a word (R153). -/
  | portBitDrive
  /-- START written to CMD (R13). -/
  | start
  /-- STOP written to CMD (R15). -/
  | stop
  /-- RESYNC written to CMD (R37). -/
  | resync
  /-- SWAP written to CMD (R70). -/
  | swap
  /-- CANCEL_SWAP written to CMD (R78). -/
  | cancelSwap
  /-- QFLUSH written to CMD (R143). -/
  | qflush
  /-- SKIP_RECORD written to CMD (R141). -/
  | skipRecord
  /-- CLEAR_CHANNELS written to CMD (R119). -/
  | clearChannels
  /-- CLEAR_COUNTERS written to CMD (R179). -/
  | clearCounters
  /-- SOFT_RESET written to CMD (R181). -/
  | softReset
  /-- A word written to CMD whose code names no command (R178). -/
  | unnamedCommandCode (value : Word)
  /-- A host write to a frame format register (R4, R5). -/
  | formatRegisterWrite (addr : BitVec 6) (value : Word)
  /-- A host write to FMT_CLKLOSS (R11). -/
  | clklossUsWrite (value : Word)
  /-- A host read of QDATA (R139, R140). -/
  | qdataRead
  /-- A host write to TSPACE (R174). -/
  | tspaceWrite (value : Word)
  /-- A host write to TINDEX (R174). -/
  | tindexWrite (value : Word)
  /-- A host read of TDATA (R175). -/
  | tdataRead
  /-- A host write to TDATA (R176). -/
  | tdataWrite (value : Word)
  /-- A host write to ROUTE (R144). -/
  | routeWrite (value : Word)
  /-- A host write to CAPTURE (R122). -/
  | captureWrite (value : Word)
  /-- A host write to PORT_CONFIG (R156). -/
  | portConfigWrite (value : Word)
  /-- A host write to LATCHED_STATUS (R162). -/
  | latchedStatusWrite (value : Word)
  /-- A host write to MARK_HITS (R171). -/
  | markHitsWrite (value : Word)
  /-- A host write to any other address of the register window (R173). -/
  | registerWrite (addr : BitVec 6) (value : Word)
  deriving DecidableEq, Repr

end Sys2Proof
end

