-- ==== Sys2Proof/Config.lean ====
section
/-! DEFINITION. What the DC-40 fixes for every part (sizes and limits), and the one free value of the
manual: the order of records that different blocks offer at one happening. -/

namespace Sys2Proof

/-- Words the record store holds (R134). -/
def Config.storeWords : Nat := 4096

/-- Words of a map space: the default entry and positions 1 to 512 (Table 4-2). -/
def Config.mapWords : Nat := 513

/-- Words of a list space: start and length of 64 lists (Table 4-2). -/
def Config.listWords : Nat := 128

/-- Words of a pool space (Table 4-2). -/
def Config.poolWords : Nat := 1024

/-- Words of the PROFILES space: sixteen profiles of four words (R84). -/
def Config.profileWords : Nat := 64

/-- Channel entries (R106). -/
def Config.channels : Nat := 256

/-- Words of the CHANNELS space: eight for each entry (R107). -/
def Config.channelWords : Nat := 2048

/-- Words of the SUMMARY space (R107). -/
def Config.summaryWords : Nat := 16

/-- Bits the Frame Synchronizer's history holds (R18). -/
def Config.historyBits : Nat := 52

/-- REFCLK periods in a microsecond (R8). -/
def Config.refclkPerUs : Nat := 10

/-- REFCLK periods in a millisecond (R155). -/
def Config.refclkPerMs : Nat := 10000

/-- The FREE VALUE of the manual. Offers made at one happening by different blocks reach the queue in
either order (section 8.10, R137): the n-th such choice puts `Config.offeredBefore n` (cut to the
number there are) of the other blocks' records in front of the next record. It has no body, so no
proof can know it. Assumption log 4. -/
opaque Config.offeredBefore : Nat → Nat

end Sys2Proof
end

