-- ==== Sys2Proof/Machine/State.lean ====
section
/-! DEFINITION. The state of the DC-40: one structure for each functional block of Table 0-1, and
`State.reset`, the values after RESET# is released. Plain data throughout. -/

namespace Sys2Proof.Machine

/-- A table memory in its one canonical form (`Memory.Wf`): pairs of an index and its contents,
indices rising, none equal to what an unlisted index reads as. -/
abbrev Memory (α : Type) := List (Nat × α)

/-- A record: its 16-bit words, header first (R133). -/
abbrev Rec := List Word

/-- An interval timer on REFCLK: stopped, or running with the periods elapsed (R8, R149). -/
inductive Timer where
  | stopped
  | running (elapsed : Nat)
  deriving DecidableEq, Repr

/-! ### Control Block, Input Port, Clock Monitor (Chapter 1) -/

/-- The run state (R12). -/
inductive RunState where
  | idle
  | run
  deriving DecidableEq, Repr

/-- The SFID count direction (R42). -/
inductive SfidDir where
  | up
  | down
  deriving DecidableEq, Repr

/-- The frame format fields, with the power-on values of Table 1-2. -/
structure Format where
  syncLen : Nat := 24
  syncPattern : BitVec 48 := 0x000000FAF320
  syncMask : BitVec 48 := 0xFFFFFFFFFFFF
  wlen : Nat := 8
  wpf : Nat := 64
  depth : Nat := 1
  sfidPos : Nat := 1
  sfidLsb : Nat := 0
  sfidWidth : Nat := 8
  sfidDir : SfidDir := .up
  sfidBase : Nat := 0
  tolSearch : Nat := 0
  tolCheck : Nat := 1
  tolLock : Nat := 2
  checkCount : Nat := 2
  lockMiss : Nat := 3
  slipWin : Nat := 0
  sfCheckCount : Nat := 2
  sfMiss : Nat := 3
  inputInvert : Bool := false
  clockEdge : ClockEdge := .rising
  clklossUs : Nat := 1000
  deriving DecidableEq, Repr

/-- CLOCK_PRESENT and the loss timer (R8). `overtaken`, the model's own mark, stands from a selected edge
taken in the period in which the timer was due until that period ends (R57, log 24). -/
structure ClockMonitor where
  present : Bool := false
  timer : Timer := .stopped
  overtaken : Bool := false
  deriving DecidableEq, Repr

/-! ### Frame Synchronizer (Chapter 2) -/

/-- The sync states of Table 2-1. -/
inductive SyncState where
  | off
  | search
  | check
  | lock
  | coast
  deriving DecidableEq, Repr

/-- The state of R17. `history` holds the last `fill` bits taken, the newest in bit 0 (R18); the bits
at `fill` and above are 0. `offset` is the frame offset of the newest bit. -/
structure FrameSync where
  sync : SyncState := .off
  goodCount : Nat := 0
  missCount : Nat := 0
  history : BitVec 52 := 0
  fill : Nat := 0
  offset : Nat := 0
  fsn : Word := 0
  decodedMark : Bool := false
  coastMark : Bool := false
  slips : Word := 0
  syncMisses : Word := 0
  deriving DecidableEq, Repr

/-! ### Subframe Synchronizer (Chapter 3) -/

/-- The subframe states of Table 3-1. -/
inductive SubState where
  | off
  | search
  | check
  | lock
  deriving DecidableEq, Repr

/-- The state of R41. The predicted SFID is a view of `held` by R42. -/
structure SubframeSync where
  state : SubState := .off
  held : Option Nat := none
  goodCount : Nat := 0
  missCount : Nat := 0
  deriving DecidableEq, Repr

/-! ### Map Store (Chapter 4) -/

/-- A map bank's name. -/
inductive Bank where
  | a
  | b
  deriving DecidableEq, Repr

/-- The swap state of the standby bank (R59). -/
inductive SwapState where
  | editable
  | validating
  | pending
  deriving DecidableEq, Repr

/-- The reasons of the validation fault record (Table 4-4). -/
inductive FaultReason where
  | noFault
  | listEmpty
  | listRange
  | defaultInherit
  | defaultPart
  deriving DecidableEq, Repr

/-- One bank: 513 map words, 128 list words, 1024 pool words (R59). An unlisted map word reads 0000h
(IGNORE), an unlisted list word 0, an unlisted pool word FFFFh (NONE). -/
structure MapBank where
  map : Memory Word := []
  lists : Memory Word := []
  pool : Memory Word := []
  deriving DecidableEq, Repr

/-- The validation fault record (R59). -/
structure MapFault where
  bank : Bank := .a
  location : Nat := 0
  reason : FaultReason := .noFault
  deriving DecidableEq, Repr

/-- The state of R59. -/
structure MapStore where
  bankA : MapBank := {}
  bankB : MapBank := {}
  active : Bank := .a
  swap : SwapState := .editable
  fault : MapFault := {}
  deriving DecidableEq, Repr

/-! ### Profile Table and Word Decoder (Chapter 5) -/

/-- The bit order of a profile (R91). -/
inductive BitOrder where
  | msbFirst
  | lsbFirst
  deriving DecidableEq, Repr

/-- The coding of a profile (R99). -/
inductive Coding where
  | unsigned
  | twos
  | offset
  | signMag
  deriving DecidableEq, Repr

/-- The parity mode of a profile (R92). -/
inductive Parity where
  | noParity
  | odd
  | even
  deriving DecidableEq, Repr

/-- What a parity failure does to the decode (R93). -/
inductive ParityAction where
  | flag
  | drop
  deriving DecidableEq, Repr

/-- Where a sample goes (R101). -/
inductive Dest where
  | table
  | tableQueue
  deriving DecidableEq, Repr

/-- A committed profile, with the power-on values of Table 5-1. -/
structure Profile where
  order : BitOrder := .msbFirst
  coding : Coding := .unsigned
  fieldLsb : Nat := 0
  fieldWidth : Nat := 16
  parity : Parity := .noParity
  parityAction : ParityAction := .flag
  nullEn : Bool := false
  nullValue : Word := 0
  deadband : Word := 0
  dest : Dest := .tableQueue
  deriving DecidableEq, Repr

/-- A staging record that holds a profile: its number and the staged words 0, 1 and 2 (R85). -/
structure Staging where
  number : Nat
  word0 : Word
  word1 : Word
  word2 : Word
  deriving DecidableEq, Repr

/-- The sixteen committed profiles (an unlisted number has the power-on profile) and the staging
record, `none` while it is empty (R83). -/
structure ProfileTable where
  profiles : Memory Profile := []
  staging : Option Staging := none
  deriving DecidableEq, Repr

/-- The four decode counters (R103). -/
structure DecodeCounters where
  parityErrors : Word := 0
  joinFaults : Word := 0
  subcomSkips : Word := 0
  nulls : Word := 0
  deriving DecidableEq, Repr

/-! ### Channel Table (Chapter 6) -/

/-- A held upper part: the raw word and its fail mark (R94). -/
structure HeldPart where
  raw : Word
  failed : Bool
  deriving DecidableEq, Repr

/-- A channel entry, with the power-on values of Table 6-1. -/
structure ChannelEntry where
  enable : Bool := true
  notify : Bool := false
  profile : BitVec 4 := 0
  valid : Bool := false
  available : Bool := false
  overrun : Bool := false
  parity : Bool := false
  value : BitVec 32 := 0
  fsn : Word := 0
  phase : BitVec 8 := 0xFF
  sampleCount : Word := 0
  suppressedCount : Word := 0
  held : Option HeldPart := none
  deriving DecidableEq, Repr

/-- The contents of the snapshot latch: a channel number and the eight words of its entry (R113). -/
structure Snapshot where
  channel : Nat
  words : List Word
  deriving DecidableEq, Repr

/-- The 256 entries (an unlisted channel has the power-on entry) and the snapshot latch, `none` while
it is empty (R106). -/
structure ChannelTable where
  entries : Memory ChannelEntry := []
  latch : Option Snapshot := none
  deriving DecidableEq, Repr

/-! ### Capture Unit (Chapter 7) -/

/-- A capture in progress: the frame context of R124 and the buffer, in position order. -/
structure Capture where
  fsn : Word
  coast : Bool
  phase : Option Nat
  slip : Int
  buffer : List Word
  deriving DecidableEq, Repr

/-- The state of R121. The capture mark is set exactly while `current` is present. -/
structure CaptureUnit where
  every : Nat := 0
  countdown : Nat := 1
  current : Option Capture := none
  abandoned : Word := 0
  deriving DecidableEq, Repr

/-! ### Record Queue (Chapter 8) -/

/-- The way records leave the queue (R132). -/
inductive Route where
  | host
  | port
  deriving DecidableEq, Repr

/-- The state of R132. `consumed` and `begun` are the progress of the head record; `begun` is also the
port's mark that it has begun the head record (R149). -/
structure RecordQueue where
  store : List Rec := []
  consumed : Nat := 0
  begun : Bool := false
  gapPending : Word := 0
  dropped : Word := 0
  threshold : Nat := 2048
  requested : Route := .host
  active : Route := .host
  deriving DecidableEq, Repr

/-! ### Record Output Port (Chapter 9) -/

/-- The port states of Table 9-1. -/
inductive PortMode where
  | off
  | idle
  | sending
  | paused
  deriving DecidableEq, Repr

/-- The state of R149 and the levels of the port's lines (R150). `inFlight` is the number of bits
already sent of the word in flight, `none` while no word is in flight; the word itself is the first
unread word of the head record. `clk` is `none` while RO_CLK is stopped low, else the divisor of the
half-period now running. -/
structure OutputPort where
  mode : PortMode := .off
  inFlight : Option Nat := none
  stall : Timer := .stopped
  stallExpired : Bool := false
  portDiv : Nat := 4
  stallMs : Nat := 0
  clk : Option Nat := none
  frm : Bool := false
  dat : Bool := false
  deriving DecidableEq, Repr

/-! ### Event Unit (Chapter 10) -/

/-- The polarity of the interrupt pin (R166). -/
inductive Polarity where
  | activeLow
  | activeHigh
  deriving DecidableEq, Repr

/-- The drive of the interrupt pin (R166). -/
inductive Drive where
  | openDrain
  | pushPull
  deriving DecidableEq, Repr

/-- A marker's action (R169). -/
inductive MarkAction where
  | status
  | statusAndRecord
  deriving DecidableEq, Repr

/-- A marker: position 0 disables it; `any` is phase ANY (R169). -/
structure Marker where
  position : Nat := 0
  phase : BitVec 8 := 0
  any : Bool := false
  action : MarkAction := .status
  deriving DecidableEq, Repr

/-- The state of Chapter 10. `latched` and `latchedEnable` hold the fifteen bits of Table 10-1 from
bit 0, `levelEnable` the six of R163, `recordMask` the eight of EVENT_RECORD_MASK, `hits` the four
marker hit flags. -/
structure EventUnit where
  latched : BitVec 15 := 0
  latchedEnable : BitVec 15 := 0
  levelEnable : BitVec 6 := 0
  masterEnable : Bool := false
  polarity : Polarity := .activeLow
  drive : Drive := .openDrain
  recordMask : BitVec 8 := 0xEF
  marker0 : Marker := {}
  marker1 : Marker := {}
  marker2 : Marker := {}
  marker3 : Marker := {}
  hits : BitVec 4 := 0
  deriving DecidableEq, Repr

/-! ### Host Interface (Chapter 11) -/

/-- The nine table spaces (Table 11-1). -/
inductive Space where
  | mapA
  | mapB
  | listsA
  | listsB
  | poolA
  | poolB
  | profiles
  | channels
  | summary
  deriving DecidableEq, Repr

/-- The host errors (R177). -/
inductive HostError where
  | range
  | state
  | readOnly
  | bankActive
  | bankBusy
  | qdataEmpty
  | tableAddress
  | profileInvalid
  deriving DecidableEq, Repr

/-- The command results (Table 12-2). -/
inductive CmdResult where
  | noResult
  | accepted
  | refusedState
  | refusedBusy
  | refusedFormat
  | refusedCode
  deriving DecidableEq, Repr

/-- The state of Chapter 11. `errCode` is `none` for NONE. `dataBus` is the MODEL's own field: the
word the last read of QDATA or TDATA drove on D15-D0, `none` while nothing is driven (log 9). -/
structure HostInterface where
  tspace : Space := .mapA
  tindex : Nat := 0
  errCode : Option HostError := none
  errCount : Word := 0
  cmdCode : BitVec 8 := 0
  cmdResult : CmdResult := .noResult
  dataBus : Option Word := none
  deriving DecidableEq, Repr

/-! ### The whole machine -/

/-- The decommutator. `order` counts the free order choices drawn (log 4) and `pending` is the queue of
waiting commands: both the MODEL's own. -/
structure State where
  resetAsserted : Bool := false
  run : RunState := .idle
  fmt : Format := {}
  clock : ClockMonitor := {}
  fs : FrameSync := {}
  sf : SubframeSync := {}
  map : MapStore := {}
  prof : ProfileTable := {}
  dec : DecodeCounters := {}
  chan : ChannelTable := {}
  cap : CaptureUnit := {}
  queue : RecordQueue := {}
  port : OutputPort := {}
  ev : EventUnit := {}
  host : HostInterface := {}
  order : Nat := 0
  pending : List Instr := []
  deriving DecidableEq, Repr

/-- The machine right after RESET# is released: every block at its power-on values (R180), no command
waiting. -/
def State.reset : State := {}

/-- The reasons a step could fault: none. The spec gives the block no fault; every access is carried
out or refused with a host error (R172 to R177). Safe: nothing is cut short. -/
inductive Fault where
  deriving DecidableEq, Repr

/-- The reasons a step could be refused. -/
inductive Refusal where
  /-- Raised by an arm of `exec` whose command has no meaning yet: no arm raises it. Safe. -/
  | notModelled (mnemonic : String)
  deriving DecidableEq, Repr

end Sys2Proof.Machine
end

