-- ==== Sys2Proof/Machine/Operands.lean ====
section
/-! DEFINITION. The forms of the words that pass between the host, the tables and the records: the
fields of a written word, the codes of Table 12-2, the layouts of Tables 12-3 to 12-6. -/

namespace Sys2Proof.Machine

/-- Bits `lo` to `lo + len - 1` of a word, as a number. -/
def bitField (w : Word) (lo len : Nat) : Nat := (w.extractLsb' lo len).toNat

/-- One bit of a word. -/
def bitAt (w : Word) (i : Nat) : Bool := w.getLsbD i

/-- A number put into a word at bit `lo`. -/
def placed (n lo : Nat) : Word := BitVec.ofNat 16 n <<< lo

/-- A mark put into a word at bit `i`. -/
def placedBit (b : Bool) (i : Nat) : Word := if b then placed 1 i else 0

/-! ### Codes of Table 12-2 -/

/-- RUN: 0 IDLE, 1 RUN. -/
def RunState.code : RunState → Nat
  | .idle => 0
  | .run => 1

/-- SYNC: 0 OFF to 4 COAST. -/
def SyncState.code : SyncState → Nat
  | .off => 0
  | .search => 1
  | .check => 2
  | .lock => 3
  | .coast => 4

/-- SF: 0 SF_OFF to 3 SF_LOCK. -/
def SubState.code : SubState → Nat
  | .off => 0
  | .search => 1
  | .check => 2
  | .lock => 3

/-- ACTIVE and bank: 0 A, 1 B. -/
def Bank.code : Bank → Nat
  | .a => 0
  | .b => 1

/-- SWAP_STATE: 0 EDITABLE, 1 VALIDATING, 2 PENDING. -/
def SwapState.code : SwapState → Nat
  | .editable => 0
  | .validating => 1
  | .pending => 2

/-- Validation fault reasons. -/
def FaultReason.code : FaultReason → Nat
  | .noFault => 0
  | .listEmpty => 1
  | .listRange => 2
  | .defaultInherit => 3
  | .defaultPart => 4

/-- Route: 0 HOST, 1 PORT. -/
def Route.code : Route → Nat
  | .host => 0
  | .port => 1

/-- Port state: 0 OFF to 3 PAUSED. -/
def PortMode.code : PortMode → Nat
  | .off => 0
  | .idle => 1
  | .sending => 2
  | .paused => 3

/-- Command results. -/
def CmdResult.code : CmdResult → Nat
  | .noResult => 0
  | .accepted => 1
  | .refusedState => 2
  | .refusedBusy => 3
  | .refusedFormat => 4
  | .refusedCode => 5

/-- Host errors; ERR_CODE NONE is 0 and `none`. -/
def HostError.code : HostError → Nat
  | .range => 1
  | .state => 2
  | .readOnly => 3
  | .bankActive => 4
  | .bankBusy => 5
  | .qdataEmpty => 6
  | .tableAddress => 7
  | .profileInvalid => 8

/-- The space field of TSPACE; codes 9 to 15 name no space. -/
def Space.ofCode : Nat → Option Space
  | 0 => some .mapA
  | 1 => some .mapB
  | 2 => some .listsA
  | 3 => some .listsB
  | 4 => some .poolA
  | 5 => some .poolB
  | 6 => some .profiles
  | 7 => some .channels
  | 8 => some .summary
  | _ => none

/-- The code of a space. -/
def Space.code : Space → Nat
  | .mapA => 0
  | .mapB => 1
  | .listsA => 2
  | .listsB => 3
  | .poolA => 4
  | .poolB => 5
  | .profiles => 6
  | .channels => 7
  | .summary => 8

/-- The number of words of a space (Table 11-1). -/
def Space.words : Space → Nat
  | .mapA | .mapB => Config.mapWords
  | .listsA | .listsB => Config.listWords
  | .poolA | .poolB => Config.poolWords
  | .profiles => Config.profileWords
  | .channels => Config.channelWords
  | .summary => Config.summaryWords

/-! ### Frame format registers (Table 12-1, 08h to 14h) -/

/-- The word an address of a 48-bit register shows: 0 is bits 47-32, 2 is bits 15-0 (R183). -/
def word48 (v : BitVec 48) (k : Nat) : Word := v.extractLsb' (16 * (2 - k)) 16

/-- A 48-bit register with one of its three words replaced (R183). -/
def setWord48 (v : BitVec 48) (k : Nat) (w : Word) : BitVec 48 :=
  match k with
  | 0 => w ++ (v.extractLsb' 0 32)
  | 1 => (v.extractLsb' 32 16) ++ w ++ (v.extractLsb' 0 16)
  | _ => (v.extractLsb' 16 32) ++ w

/-- A value kept only if it lies from `lo` to `hi`. -/
def inRange (lo hi n : Nat) : Bool := decide (lo ≤ n) && decide (n ≤ hi)

/-- A write to FMT_SYNC: all four fields in range, or none taken (R5, Table 1-2). -/
def Format.writeSync (f : Format) (w : Word) : Option Format :=
  if inRange 8 48 (bitField w 0 6) then
    some { f with syncLen := bitField w 0 6, tolSearch := bitField w 6 3,
                  tolCheck := bitField w 9 3, tolLock := bitField w 12 3 }
  else none

/-- A write to FMT_WORD (R5). -/
def Format.writeWord (f : Format) (w : Word) : Option Format :=
  if inRange 2 512 (bitField w 0 10) && inRange 4 16 (bitField w 10 5) then
    some { f with wpf := bitField w 0 10, wlen := bitField w 10 5 }
  else none

/-- A write to FMT_LOCK (R5). -/
def Format.writeLock (f : Format) (w : Word) : Option Format :=
  if inRange 1 15 (bitField w 0 4) && inRange 1 15 (bitField w 4 4)
      && inRange 1 7 (bitField w 8 3) && inRange 1 15 (bitField w 12 4) then
    some { f with checkCount := bitField w 0 4, lockMiss := bitField w 4 4,
                  sfCheckCount := bitField w 8 3, sfMiss := bitField w 12 4 }
  else none

/-- The clock edge a bit names (Table 12-2). -/
def edgeOf (b : Bool) : ClockEdge := if b then .falling else .rising

/-- A write to FMT_MAJOR (R5). -/
def Format.writeMajor (f : Format) (w : Word) : Option Format :=
  if inRange 1 256 (bitField w 0 9) && inRange 0 2 (bitField w 9 2) then
    some { f with depth := bitField w 0 9, slipWin := bitField w 9 2,
                  inputInvert := bitAt w 11, clockEdge := edgeOf (bitAt w 12) }
  else none

/-- A write to FMT_SFID (R5). -/
def Format.writeSfid (f : Format) (w : Word) : Option Format :=
  if inRange 1 512 (bitField w 0 10) then
    some { f with sfidPos := bitField w 0 10, sfidDir := if bitAt w 10 then .down else .up }
  else none

/-- A write to FMT_SFID_FIELD (R5). -/
def Format.writeSfidField (f : Format) (w : Word) : Option Format :=
  if inRange 1 8 (bitField w 4 4) then
    some { f with sfidLsb := bitField w 0 4, sfidWidth := bitField w 4 4,
                  sfidBase := bitField w 8 8 }
  else none

/-- A write of a word to the frame format register at an address: the new format, or `none` where a
field is out of range (R5, R183). FMT_CLKLOSS, which takes every value, is written with the Clock
Monitor (R11). -/
def Format.write (f : Format) (addr : Nat) (w : Word) : Option Format :=
  match addr with
  | 0x08 => some { f with syncPattern := setWord48 f.syncPattern 0 w }
  | 0x09 => some { f with syncPattern := setWord48 f.syncPattern 1 w }
  | 0x0A => some { f with syncPattern := setWord48 f.syncPattern 2 w }
  | 0x0B => some { f with syncMask := setWord48 f.syncMask 0 w }
  | 0x0C => some { f with syncMask := setWord48 f.syncMask 1 w }
  | 0x0D => some { f with syncMask := setWord48 f.syncMask 2 w }
  | 0x0E => f.writeSync w
  | 0x0F => f.writeWord w
  | 0x10 => f.writeLock w
  | 0x11 => f.writeMajor w
  | 0x12 => f.writeSfid w
  | 0x13 => f.writeSfidField w
  | _ => none

/-- What a frame format register reads (R3, Table 12-1). -/
def Format.read (f : Format) (addr : Nat) : Word :=
  match addr with
  | 0x08 => word48 f.syncPattern 0
  | 0x09 => word48 f.syncPattern 1
  | 0x0A => word48 f.syncPattern 2
  | 0x0B => word48 f.syncMask 0
  | 0x0C => word48 f.syncMask 1
  | 0x0D => word48 f.syncMask 2
  | 0x0E => placed f.syncLen 0 ||| placed f.tolSearch 6 ||| placed f.tolCheck 9
              ||| placed f.tolLock 12
  | 0x0F => placed f.wpf 0 ||| placed f.wlen 10
  | 0x10 => placed f.checkCount 0 ||| placed f.lockMiss 4 ||| placed f.sfCheckCount 8
              ||| placed f.sfMiss 12
  | 0x11 => placed f.depth 0 ||| placed f.slipWin 9 ||| placedBit f.inputInvert 11
              ||| placedBit (f.clockEdge = .falling) 12
  | 0x12 => placed f.sfidPos 0 ||| placedBit (f.sfidDir = .down) 10
  | 0x13 => placed f.sfidLsb 0 ||| placed f.sfidWidth 4 ||| placed f.sfidBase 8
  | 0x14 => placed f.clklossUs 0
  | _ => 0

/-! ### Map words (Table 12-3) -/

/-- The part a CHANNEL entry names (R60). -/
inductive Part where
  | whole
  | upper
  | lower
  deriving DecidableEq, Repr

/-- What a map word means, its capture flag apart (R60, R61). -/
inductive MapKind where
  | ignore
  | channel (number : Nat) (part : Part)
  | subcom (list : Nat)
  | inherit
  deriving DecidableEq, Repr

/-- The part field of a CHANNEL word. Code 3 is refused at the write (R67), so no bank holds it; it is
read as LOWER (log 17). -/
def partOf (w : Word) : Part :=
  match bitField w 8 2 with
  | 0 => .whole
  | 1 => .upper
  | _ => .lower

/-- The kind of a map word, with the fields that kind uses (Table 12-3). -/
def mapKind (w : Word) : MapKind :=
  match bitField w 14 2 with
  | 0 => .ignore
  | 1 => .channel (bitField w 0 8) (partOf w)
  | 2 => .subcom (bitField w 0 6)
  | _ => .inherit

/-- The capture flag of a map word. -/
def captureFlag (w : Word) : Bool := bitAt w 13

/-- A map word is refused with RANGE only when it is CHANNEL with part code 3 (R67). -/
def mapWordValid (w : Word) : Bool := !(bitField w 14 2 == 1 && bitField w 8 2 == 3)

/-- A list word holds a start of 0 to 1023 at an even offset, a length of 0 to 256 at an odd one
(R67). -/
def listWordValid (offset : Nat) (w : Word) : Bool :=
  if offset % 2 = 0 then decide (w.toNat ≤ 1023) else decide (w.toNat ≤ 256)

/-- A pool word holds a channel number or NONE (R67). -/
def poolWordValid (w : Word) : Bool := decide (w.toNat ≤ 255) || w == 0xFFFF

/-- The channel a pool word names; NONE is FFFFh (R63). -/
def poolChannel (w : Word) : Option Nat := if w = 0xFFFF then none else some (bitField w 0 8)

/-! ### Profile words (Table 12-3) -/

/-- The parity code of profile word 0; code 3 names no mode. -/
def parityOf (code : Nat) : Option Parity :=
  match code with
  | 0 => some .noParity
  | 1 => some .odd
  | 2 => some .even
  | _ => none

/-- The coding code of profile word 0. -/
def codingOf (code : Nat) : Coding :=
  match code with
  | 0 => .unsigned
  | 1 => .twos
  | 2 => .offset
  | _ => .signMag

/-- The code of a parity mode. -/
def Parity.code : Parity → Nat
  | .noParity => 0
  | .odd => 1
  | .even => 2

/-- The code of a coding. -/
def Coding.code : Coding → Nat
  | .unsigned => 0
  | .twos => 1
  | .offset => 2
  | .signMag => 3

/-- Word k of a committed profile; its unassigned bits read 0 (R84, R182). -/
def Profile.word (p : Profile) (k : Nat) : Word :=
  match k with
  | 0 => placedBit (p.order = .lsbFirst) 0 ||| placed p.coding.code 1 ||| placed p.parity.code 3
          ||| placedBit (p.parityAction = .drop) 5 ||| placedBit p.nullEn 6
          ||| placedBit (p.dest = .tableQueue) 7
  | 1 => placed p.fieldLsb 0 ||| placed p.fieldWidth 8
  | 2 => p.nullValue
  | _ => p.deadband

/-- The candidate profile of four words, if it meets every condition of Table 5-2 (R86). -/
def profileOf (w0 w1 w2 w3 : Word) : Option Profile :=
  match parityOf (bitField w0 3 2) with
  | none => none
  | some parity =>
    let lsb := bitField w1 0 5
    let width := bitField w1 8 6
    let nullEn := bitAt w0 6
    if inRange 1 32 width && decide (lsb + width ≤ 32) && !(nullEn && decide (16 < width)) then
      some { order := if bitAt w0 0 then .lsbFirst else .msbFirst
             coding := codingOf (bitField w0 1 2)
             fieldLsb := lsb
             fieldWidth := width
             parity := parity
             parityAction := if bitAt w0 5 then .drop else .flag
             nullEn := nullEn
             nullValue := w2
             deadband := w3
             dest := if bitAt w0 7 then .tableQueue else .table }
    else none

/-! ### Channel entry words (Table 12-4) -/

/-- Word k of a channel entry (R107). DESIGN CHOICE (log 25): bits 15-8 of word 4, to which Table 12-4
assigns no field, read 0. -/
def ChannelEntry.word (e : ChannelEntry) (k : Nat) : Word :=
  match k with
  | 0 => placedBit e.enable 0 ||| placedBit e.notify 1 ||| placed e.profile.toNat 4
          ||| placedBit e.valid 8 ||| placedBit e.available 9 ||| placedBit e.overrun 10
          ||| placedBit e.parity 11
  | 1 => e.value.extractLsb' 16 16
  | 2 => e.value.extractLsb' 0 16
  | 3 => e.fsn
  | 4 => e.phase.setWidth 16
  | 5 => e.sampleCount
  | 6 => e.suppressedCount
  | _ =>
    match e.held with
    | none => 0
    | some h => placedBit true 15 ||| placedBit h.failed 14 ||| placed (bitField h.raw 0 14) 0

/-- All eight words of an entry, as the snapshot latch copies them (R113). -/
def ChannelEntry.words (e : ChannelEntry) : List Word := (List.range 8).map e.word

/-- The phase byte of an entry or a record: FFh when the phase is not known (R101, R108). -/
def phaseByte (phase : Option Nat) : BitVec 8 :=
  match phase with
  | none => 0xFF
  | some p => BitVec.ofNat 8 p

/-! ### Records (Table 12-5) -/

/-- Record kinds and their codes. -/
inductive RecordKind where
  | sample
  | frame
  | event
  | gap
  deriving DecidableEq, Repr

/-- Kind codes 1 to 4. -/
def RecordKind.code : RecordKind → Nat
  | .sample => 1
  | .frame => 2
  | .event => 3
  | .gap => 4

/-- A record header: kind 15-13, COAST 12, PARITY 11, OVERRUN 10, length 9-0 (R133). -/
def header (kind : RecordKind) (coast parity overrun : Bool) (length : Nat) : Word :=
  placed kind.code 13 ||| placedBit coast 12 ||| placedBit parity 11 ||| placedBit overrun 10
    ||| placed length 0

/-- The length field of a header. -/
def headerLength (w : Word) : Nat := bitField w 0 10

/-- A SAMPLE record (R101). -/
def sampleRecord (fsn : Word) (channel : Nat) (phase : BitVec 8) (value : BitVec 32)
    (coast parity overrun : Bool) : Rec :=
  [header .sample coast parity overrun 5, fsn, placed channel 8 ||| phase.setWidth 16,
   value.extractLsb' 16 16, value.extractLsb' 0 16]

/-- A FRAME record of the captured words (R126). DESIGN CHOICE (log 25): bits 15 and 11-9 of word 2, to
which Table 12-5 assigns no field, are 0. -/
def frameRecord (c : Capture) : Rec :=
  [header .frame c.coast false false (4 + c.buffer.length), c.fsn,
   (phaseByte c.phase).setWidth 16 ||| placedBit c.coast 8
     ||| ((BitVec.ofInt 3 c.slip).setWidth 16 <<< 12),
   BitVec.ofNat 16 c.buffer.length] ++ c.buffer

/-- A GAP record carrying the pending-gap count (R135). -/
def gapRecord (count : Word) : Rec := [header .gap false false false 2, count]

/-- The events of Table 10-2. -/
inductive EventCode where
  | lock
  | coast
  | relock
  | lost
  | slip
  | sfLock
  | sfLost
  | swap
  | mark
  deriving DecidableEq, Repr

/-- Event codes of Table 12-6. -/
def EventCode.code : EventCode → Nat
  | .lock => 1
  | .coast => 2
  | .relock => 3
  | .lost => 4
  | .slip => 5
  | .sfLock => 6
  | .sfLost => 7
  | .swap => 8
  | .mark => 9

/-- The reasons of a LOST event and their codes (Table 12-6). -/
inductive LostReason where
  | misses
  | clock
  | resync
  deriving DecidableEq, Repr

/-- Codes 1 to 3. -/
def LostReason.code : LostReason → Nat
  | .misses => 1
  | .clock => 2
  | .resync => 3

/-- An event as a block hands it to the Event Unit: code, argument, FSN and coast mark (10.4). -/
structure Event where
  code : EventCode
  arg : Word
  fsn : Word
  coast : Bool
  deriving DecidableEq, Repr

/-- The EVENT record of an event (R168). -/
def Event.record (e : Event) : Rec :=
  [header .event e.coast false false 4, e.fsn, placed e.code.code 0, e.arg]

end Sys2Proof.Machine
end

