-- ==== Sys2Proof/Machine/Flags.lean ====
section
/-! DEFINITION. Every status bit and view that is computed from the state: the latched status bits, the
record queue's counts, the level status, the interrupt line and pin, the port's pins, the known phase
and the predicted SFID. -/

namespace Sys2Proof.Machine

/-! ### Latched status (Table 10-1) -/

/-- The fifteen latched status bits. -/
inductive LatchedBit where
  | lockGained
  | lockLost
  | coastEntered
  | slip
  | sfGained
  | sfLost
  | clockLoss
  | swapDone
  | swapFailed
  | queueDrop
  | parityErr
  | joinFault
  | channelReady
  | portStall
  | hostError
  deriving DecidableEq, Repr

/-- The position of a latched bit in LATCHED_STATUS (Table 12-1, address 30h). -/
def LatchedBit.index : LatchedBit → Nat
  | .lockGained => 0
  | .lockLost => 1
  | .coastEntered => 2
  | .slip => 3
  | .sfGained => 4
  | .sfLost => 5
  | .clockLoss => 6
  | .swapDone => 7
  | .swapFailed => 8
  | .queueDrop => 9
  | .parityErr => 10
  | .joinFault => 11
  | .channelReady => 12
  | .portStall => 13
  | .hostError => 14

/-- The word with one latched bit set. -/
def LatchedBit.mask (b : LatchedBit) : BitVec 15 := BitVec.twoPow 15 b.index

/-- A latched bit is set (R161). -/
def EventUnit.latch (ev : EventUnit) (b : LatchedBit) : EventUnit :=
  { ev with latched := ev.latched ||| b.mask }

/-- A latched bit is set when its cause has happened. -/
def EventUnit.latchIf (ev : EventUnit) (cause : Bool) (b : LatchedBit) : EventUnit :=
  { ev with latched := if cause then ev.latched ||| b.mask else ev.latched }

/-- Whether a latched bit stands set. -/
def EventUnit.has (ev : EventUnit) (b : LatchedBit) : Bool := ev.latched.getLsbD b.index

/-- The latched bit an event sets; RELOCK and MARK set none (Table 10-1). -/
def EventCode.latchedBit : EventCode → Option LatchedBit
  | .lock => some .lockGained
  | .coast => some .coastEntered
  | .relock => none
  | .lost => some .lockLost
  | .slip => some .slip
  | .sfLock => some .sfGained
  | .sfLost => some .sfLost
  | .swap => some .swapDone
  | .mark => none

/-- The position of an event's bit in EVENT_RECORD_MASK; MARK has none (R167, Table 12-1). -/
def EventCode.maskIndex : EventCode → Option Nat
  | .lock => some 0
  | .coast => some 1
  | .relock => some 2
  | .lost => some 3
  | .slip => some 4
  | .sfLock => some 5
  | .sfLost => some 6
  | .swap => some 7
  | .mark => none

/-- Whether an event offers a record: its mask bit, or for MARK always (R167, R170). -/
def EventUnit.recordsEvent (ev : EventUnit) (c : EventCode) : Bool :=
  match c.maskIndex with
  | some i => ev.recordMask.getLsbD i
  | none => true

/-! ### Record queue views (R132) -/

/-- The head record, the empty list while the store is empty. -/
def RecordQueue.head (q : RecordQueue) : Rec := q.store.headD []

/-- QCOUNT: the unread words of the store. -/
def RecordQueue.count (q : RecordQueue) : Nat := (q.store.map List.length).sum - q.consumed

/-- QRECORDS. -/
def RecordQueue.records (q : RecordQueue) : Nat := q.store.length

/-- HEAD_REMAIN: the unread words of the head record, 0 while the store is empty. -/
def RecordQueue.headRemain (q : RecordQueue) : Nat := q.head.length - q.consumed

/-- The first unread word of the head record (R139); 0 while there is none. -/
def RecordQueue.nextWord (q : RecordQueue) : Word := (q.head[q.consumed]?).getD 0

/-- The head is untouched while no word of it is consumed and the port has not begun it (R132). -/
def RecordQueue.untouched (q : RecordQueue) : Bool := decide (q.consumed = 0) && !q.begun

/-- ROUTE_PENDING (R144). -/
def RecordQueue.routePending (q : RecordQueue) : Bool := decide (q.requested ≠ q.active)

/-! ### Phase (R42, R44) -/

/-- M of R42: 2 to the power SFID_WIDTH. -/
def Format.sfidModulus (f : Format) : Nat := 2 ^ f.sfidWidth

/-- The SFID value that a phase carries (R42). -/
def Format.sfidOfPhase (f : Format) (p : Nat) : Nat :=
  match f.sfidDir with
  | .up => (((f.sfidBase : Int) + p) % f.sfidModulus).toNat
  | .down => (((f.sfidBase : Int) - p) % f.sfidModulus).toNat

/-- The phase that an SFID value maps to, if any (R42). -/
def Format.phaseOfSfid (f : Format) (v : Nat) : Option Nat :=
  let candidate :=
    match f.sfidDir with
    | .up => (((v : Int) - f.sfidBase) % f.sfidModulus).toNat
    | .down => (((f.sfidBase : Int) - v) % f.sfidModulus).toNat
  if candidate < f.depth then some candidate else none

/-- The predicted SFID: what the held phase carries; no value while none is held (R41). -/
def State.predictedSfid (s : State) : Option Nat := s.sf.held.map s.fmt.sfidOfPhase

/-- The phase supplied to the other blocks: the held phase while it is known (R44), else `none`. -/
def State.knownPhase (s : State) : Option Nat :=
  if s.sf.state = .lock ∨ (s.run = .run ∧ s.fmt.depth = 1) then s.sf.held else none

/-! ### Level status, interrupt line and pins -/

/-- IN_LOCK: the sync state is LOCK or COAST (R163); the frame in progress is then decoded. -/
def SyncState.inLock (y : SyncState) : Bool := decide (y = .lock) || decide (y = .coast)

/-- A level bit's contribution to LEVEL_STATUS. -/
def levelBit (b : Bool) (i : Nat) : BitVec 6 := if b then BitVec.twoPow 6 i else 0

/-- LEVEL_STATUS: QUEUE_LEVEL 0, QUEUE_EMPTY 1, CLOCK_PRESENT 2, IN_LOCK 3, SF_IN_LOCK 4, MARK_ANY 5
(R163, Table 12-1). -/
def State.levelStatus (s : State) : BitVec 6 :=
  levelBit (decide (s.queue.threshold < s.queue.count)) 0 ||| levelBit (decide (s.queue.count = 0)) 1
    ||| levelBit s.clock.present 2 ||| levelBit s.fs.sync.inLock 3
    ||| levelBit (decide (s.sf.state = .lock)) 4 ||| levelBit (decide (s.ev.hits ≠ 0)) 5

/-- LINE_STATE: MASTER_ENABLE is set and some status bit stands together with its enable (R165). -/
def State.lineActive (s : State) : Bool :=
  s.ev.masterEnable &&
    (decide (s.ev.latched &&& s.ev.latchedEnable ≠ 0) || decide (s.levelStatus &&& s.ev.levelEnable ≠ 0))

/-- What the interrupt pin does. -/
inductive PinState where
  | released
  | low
  | high
  deriving DecidableEq, Repr

/-- The level that stands for an active line, and the other one (R166). -/
def Polarity.level (p : Polarity) (active : Bool) : PinState :=
  match p, active with
  | .activeLow, true | .activeHigh, false => .low
  | .activeLow, false | .activeHigh, true => .high

/-- The interrupt pin: released while RESET# is asserted (R180); driven to the active level while the
line is active; else released (OPEN_DRAIN) or driven to the other level (PUSH_PULL) (R166). DESIGN CHOICE
(log 23): so it is after SOFT_RESET too, where R166 keeps DRIVE and yet says that the pin is released; the
two sentences conflict under PUSH_PULL, and the model drives the inactive level. -/
def State.intPin (s : State) : PinState :=
  if s.resetAsserted then .released
  else if s.lineActive then s.ev.polarity.level true
  else match s.ev.drive with
    | .openDrain => .released
    | .pushPull => s.ev.polarity.level false

/-- RO_FRM: held low while RESET# is asserted (R150). -/
def State.roFrm (s : State) : Bool := !s.resetAsserted && s.port.frm

/-- RO_DAT: held low while RESET# is asserted (R150). -/
def State.roDat (s : State) : Bool := !s.resetAsserted && s.port.dat

/-- RO_CLK: `none` while it is held low, else its half-period in REFCLK periods (R150). -/
def State.roClkHalfPeriod (s : State) : Option Nat :=
  if s.resetAsserted then none else s.port.clk.map (· + 1)

end Sys2Proof.Machine
end

