-- ==== Sys2Proof/Machine/Ops.lean ====
section
/-! DEFINITION. The shared operations: table memories, counters, host errors, events, and the offer of
records to the queue. -/

namespace Sys2Proof.Machine

/-! ### Table memories -/

/-- What an index reads as: its listed contents, or `d` where it is not listed. -/
def Memory.read {α : Type} (d : α) (m : Memory α) (k : Nat) : α :=
  match m with
  | [] => d
  | (a, v) :: rest => if a = k then v else Memory.read d rest k

/-- The memory with contents `v` at index `k`, in canonical form: an index given the contents that an
unlisted index reads as is unlisted. -/
def Memory.write {α : Type} [DecidableEq α] (d : α) (m : Memory α) (k : Nat) (v : α) : Memory α :=
  match m with
  | [] => if v = d then [] else [(k, v)]
  | (a, w) :: rest =>
    if k < a then (if v = d then (a, w) :: rest else (k, v) :: (a, w) :: rest)
    else if k = a then (if v = d then rest else (k, v) :: rest)
    else (a, w) :: Memory.write d rest k v

/-- The memory with `f` applied to the contents of every index; `f d` is `d` for every `f` it is used
with, so the unlisted indices stay so. -/
def Memory.mapAll {α : Type} [DecidableEq α] (d : α) (f : α → α) (m : Memory α) : Memory α :=
  match m with
  | [] => []
  | (a, v) :: rest =>
    if f v = d then Memory.mapAll d f rest else (a, f v) :: Memory.mapAll d f rest

/-- The canonical form: indices strictly rising and below `size`, no contents equal to `d`. -/
abbrev Memory.Wf {α : Type} (d : α) (size : Nat) (m : Memory α) : Prop :=
  m.Pairwise (fun p q => p.1 < q.1) ∧ ∀ p ∈ m, p.1 < size ∧ p.2 ≠ d

/-- What an unlisted word of a map, list or pool space reads as (R59). -/
def mapPowerOn : Word := 0x0000

/-- An unlisted list word reads 0 (R59). -/
def listPowerOn : Word := 0x0000

/-- An unlisted pool word reads NONE (R59, Table 12-3). -/
def poolPowerOn : Word := 0xFFFF

/-- A bank (R59). -/
def MapStore.bank (m : MapStore) (which : Bank) : MapBank :=
  match which with
  | .a => m.bankA
  | .b => m.bankB

/-- The other bank. -/
def Bank.other : Bank → Bank
  | .a => .b
  | .b => .a

/-- The bank that the selector does not name (R59). -/
def MapStore.standby (m : MapStore) : Bank := m.active.other

/-- The map store with one bank replaced. -/
def MapStore.setBank (m : MapStore) (which : Bank) (k : MapBank) : MapStore :=
  match which with
  | .a => { m with bankA := k }
  | .b => { m with bankB := k }

/-- Map word k of a bank. -/
def MapBank.mapWord (b : MapBank) (k : Nat) : Word := Memory.read mapPowerOn b.map k

/-- List word k of a bank. -/
def MapBank.listWord (b : MapBank) (k : Nat) : Word := Memory.read listPowerOn b.lists k

/-- Pool word k of a bank. -/
def MapBank.poolWord (b : MapBank) (k : Nat) : Word := Memory.read poolPowerOn b.pool k

/-- The start of a list (R62). -/
def MapBank.listStart (b : MapBank) (n : Nat) : Nat := (b.listWord (2 * n)).toNat

/-- The length of a list (R62). -/
def MapBank.listLength (b : MapBank) (n : Nat) : Nat := (b.listWord (2 * n + 1)).toNat

/-- A committed profile. -/
def ProfileTable.profile (t : ProfileTable) (n : Nat) : Profile := Memory.read {} t.profiles n

/-- A channel entry. -/
def ChannelTable.entry (t : ChannelTable) (c : Nat) : ChannelEntry := Memory.read {} t.entries c

/-- The channel table with one entry replaced. -/
def ChannelTable.setEntry (t : ChannelTable) (c : Nat) (e : ChannelEntry) : ChannelTable :=
  { t with entries := Memory.write {} t.entries c e }

/-! ### Counters -/

/-- A counter that stops at FFFFh (0.5 "Counters"). -/
def stopInc (c : Word) : Word := if c = 0xFFFF then c else c + 1

/-- A counter that stops at FFFFh, increased `n` times. -/
def stopAdd (c : Word) (n : Nat) : Word := BitVec.ofNat 16 (min 0xFFFF (c.toNat + n))

/-- A counter increased when its cause has happened. -/
def stopIncIf (cause : Bool) (c : Word) : Word := if cause then stopInc c else c

/-! ### Interval timers (R8, R155) -/

/-- An interval timer one REFCLK period on. -/
def Timer.tick : Timer → Timer
  | .stopped => .stopped
  | .running e => .running (e + 1)

/-- Whether the REFCLK period now passing brings a running timer to an interval of `periods`. -/
def Timer.expires (t : Timer) (periods : Nat) : Bool :=
  match t with
  | .stopped => false
  | .running e => decide (periods ≤ e + 1)

/-- The loss timer reaches CLKLOSS_US microseconds (R8). -/
def State.clockExpires (s : State) : Bool :=
  s.clock.timer.expires (s.fmt.clklossUs * Config.refclkPerUs)

/-- The stall timer reaches PORT_STALL_MS milliseconds (R155). -/
def State.stallExpires (s : State) : Bool :=
  s.port.stall.expires (s.port.stallMs * Config.refclkPerMs)

/-! ### Host errors -/

/-- The three effects of a host error (R177): HOST_ERROR is set, ERR_COUNT increases, and ERR_CODE
records the error if it holds NONE. -/
def hostError (e : HostError) (s : State) : State :=
  { s with
    ev := s.ev.latch .hostError
    host := { s.host with errCount := stopInc s.host.errCount
                          errCode := some (s.host.errCode.getD e) } }

/-! ### Record queue: admission (R134 to R136) -/

/-- Whether an offered record of `len` words fits, with the GAP record that a pending drop puts in
front of it (R134, R135). -/
def RecordQueue.admits (q : RecordQueue) (len : Nat) : Bool :=
  decide (q.count + (if q.gapPending = 0 then 0 else 2) + len ≤ Config.storeWords)

/-- The queue after an admission (R134, R135). -/
def RecordQueue.appended (q : RecordQueue) (r : Rec) : RecordQueue :=
  { q with
    store := q.store ++ (if q.gapPending = 0 then [r] else [gapRecord q.gapPending, r])
    gapPending := 0 }

/-- The queue after a drop (R136). -/
def RecordQueue.drop (q : RecordQueue) : RecordQueue :=
  { q with gapPending := stopInc q.gapPending, dropped := stopInc q.dropped }

/-- The queue after an offer: the record is admitted whole or dropped whole. -/
def RecordQueue.offered (q : RecordQueue) (r : Rec) : RecordQueue :=
  if q.admits r.length then q.appended r else q.drop

/-- The port at an admission: from IDLE it goes to SENDING (R152). -/
def OutputPort.onAdmission (p : OutputPort) (admitted : Bool) : OutputPort :=
  { p with mode := if admitted && decide (p.mode = .idle) then .sending else p.mode }

/-- One record is offered to the queue (R134 to R136, R152). -/
def offer (r : Rec) (s : State) : State :=
  { s with
    queue := s.queue.offered r
    port := s.port.onAdmission (s.queue.admits r.length)
    ev := s.ev.latchIf (!s.queue.admits r.length) .queueDrop }

/-- Records offered one after another. -/
def offerAll (rs : List Rec) (s : State) : State := rs.foldl (fun t r => offer r t) s

/-- Two blocks' records of one happening in a free order that keeps each block's own order (R137,
8.10): before each record of `xs` stand as many of `ys` as the free value says. -/
def weave (n : Nat) : List Rec → List Rec → List Rec
  | [], ys => ys
  | x :: xs, [] => x :: xs
  | x :: xs, y :: ys =>
    let k := Config.offeredBefore n % (ys.length + 2)
    (y :: ys).take k ++ x :: weave (n + 1) xs ((y :: ys).drop k)

/-- Several blocks' records of one happening in a free order that keeps each block's own order. -/
def weaveAll (n : Nat) : List (List Rec) → List Rec
  | [] => []
  | g :: gs => weave n g (weaveAll (n + g.length) gs)

/-- The records that several blocks offer at one happening reach the queue (8.10). -/
def offerBlocks (groups : List (List Rec)) (s : State) : State :=
  offerAll (weaveAll s.order groups) { s with order := s.order + groups.flatten.length }

/-! ### Events (R167) -/

/-- The latched bits that a list of events sets. -/
def latchedBy (evs : List Event) : BitVec 15 :=
  evs.foldl (fun acc e => match e.code.latchedBit with
    | some b => acc ||| b.mask
    | none => acc) 0

/-- The records that a block's events offer: those whose mask bit is set (R167). -/
def eventRecords (ev : EventUnit) (evs : List Event) : List Rec :=
  (evs.filter fun e => ev.recordsEvent e.code).map Event.record

/-- The events that several blocks hand to the Event Unit at one happening: each sets its latched bit
and, if its mask bit is set, offers its record (R167, R168). -/
def handEvents (blocks : List (List Event)) (s : State) : State :=
  offerBlocks (blocks.map (eventRecords s.ev))
    { s with ev := { s.ev with latched := s.ev.latched ||| latchedBy blocks.flatten } }

/-! ### Host input -/

/-- The Host Interface and the Input Port take nothing while RESET# is asserted (R172, R180), and no
other happening changes the state then (log 5). -/
def unlessReset (f : State → State) (s : State) : Host.Outcome State Fault Refusal :=
  .next (if s.resetAsserted then s else f s)

end Sys2Proof.Machine
end

