-- ==== Sys2Proof/Machine/Captures.lean ====
section
/-! DEFINITION. The Capture Unit (Chapter 7): choosing frames, gathering words, the FRAME record,
abandonment. -/

namespace Sys2Proof.Machine

/-- What a frame start hands to the blocks that act at frame boundaries (R31). -/
structure FrameInfo where
  fsn : Word
  decoded : Bool
  coast : Bool
  slip : Int
  first : Bool
  deriving DecidableEq, Repr

/-- A write to CAPTURE: a nonzero value loads the countdown with 1 (R122). -/
def CaptureUnit.write (c : CaptureUnit) (every : Nat) : CaptureUnit :=
  { c with every := every, countdown := if every = 0 then c.countdown else 1 }

/-- The countdown that a frame start finds: the first decoded frame after CHECK loads it with 1
(R123, step 1). -/
def CaptureUnit.countdownAt (c : CaptureUnit) (i : FrameInfo) : Nat :=
  if i.first then 1 else c.countdown

/-- The frame start of a frame, with the phase known at its start (R123, R124). -/
def CaptureUnit.frameStart (c : CaptureUnit) (i : FrameInfo) (phase : Option Nat) : CaptureUnit :=
  if i.decoded then
    if c.every = 0 then { c with countdown := c.countdownAt i }
    else if 1 < c.countdownAt i then { c with countdown := c.countdownAt i - 1 }
    else
      { c with
        countdown := c.every
        current := some { fsn := i.fsn, coast := i.coast, phase := phase, slip := i.slip
                          buffer := [] } }
  else c

/-- A word of the captured frame completes: it is appended when its capture flag is set (R125). -/
def Capture.append (c : Capture) (flag : Bool) (raw : Word) : Capture :=
  { c with buffer := if flag then c.buffer ++ [raw] else c.buffer }

/-- The capture after a word completes; at word WPF it ends (R125, R126). -/
def CaptureUnit.wordComplete (c : CaptureUnit) (last flag : Bool) (raw : Word) : CaptureUnit :=
  { c with current := if last then none else c.current.map fun k => k.append flag raw }

/-- The FRAME record offered at word WPF: none while no capture is in progress, and none for an empty
buffer (R126, R127). -/
def CaptureUnit.frameOffered (c : CaptureUnit) (last flag : Bool) (raw : Word) : List Rec :=
  match c.current with
  | none => []
  | some k =>
    if last && decide ((k.append flag raw).buffer ≠ []) then [frameRecord (k.append flag raw)]
    else []

/-- The abandonment of a capture in progress (R128). -/
def CaptureUnit.abandon (c : CaptureUnit) : CaptureUnit :=
  { c with current := none, abandoned := stopIncIf c.current.isSome c.abandoned }

end Sys2Proof.Machine
end

