-- ==== Sys2Proof/Machine/Markers.lean ====
section
/-! DEFINITION. The four markers of the Event Unit (section 10.5). -/

namespace Sys2Proof.Machine

/-- Marker n, 0 to 3. -/
def EventUnit.marker (ev : EventUnit) (n : Nat) : Marker :=
  match n with
  | 0 => ev.marker0
  | 1 => ev.marker1
  | 2 => ev.marker2
  | _ => ev.marker3

/-- The Event Unit with marker n replaced. -/
def EventUnit.setMarker (ev : EventUnit) (n : Nat) (m : Marker) : EventUnit :=
  match n with
  | 0 => { ev with marker0 := m }
  | 1 => { ev with marker1 := m }
  | 2 => { ev with marker2 := m }
  | _ => { ev with marker3 := m }

/-- Whether a marker hits at a completed word, given the phase supplied (R170). -/
def Marker.hits (m : Marker) (position : Nat) (phase : Option Nat) : Bool :=
  decide (m.position ≠ 0) && decide (m.position = position)
    && (m.any || decide (phase = some m.phase.toNat))

/-- The numbers of the markers that hit, ascending (R170). -/
def EventUnit.hitMarkers (ev : EventUnit) (position : Nat) (phase : Option Nat) : List Nat :=
  [0, 1, 2, 3].filter fun n => (ev.marker n).hits position phase

/-- The hit flags with those of the given markers set (R170). -/
def EventUnit.setHits (ev : EventUnit) (ns : List Nat) : EventUnit :=
  { ev with hits := ns.foldl (fun h n => h ||| BitVec.twoPow 4 n) ev.hits }

/-- The MARK records of the markers that hit, in ascending number (R170). -/
def EventUnit.markRecords (ev : EventUnit) (ns : List Nat) (fsn : Word) (coast : Bool) : List Rec :=
  (ns.filter fun n => decide ((ev.marker n).action = .statusAndRecord)).map fun n =>
    Event.record { code := .mark, arg := placed n 0, fsn := fsn, coast := coast }

/-- A write to MARK_POS of marker n, `none` where the position is above 512 (R169). -/
def EventUnit.writeMarkPos (ev : EventUnit) (n : Nat) (w : Word) : Option EventUnit :=
  if bitField w 0 10 ≤ 512 then
    some (ev.setMarker n { ev.marker n with position := bitField w 0 10 })
  else none

/-- A write to MARK_CTL of marker n (R169, Table 12-1). -/
def EventUnit.writeMarkCtl (ev : EventUnit) (n : Nat) (w : Word) : EventUnit :=
  ev.setMarker n { ev.marker n with
    phase := w.setWidth 8
    any := bitAt w 8
    action := if bitAt w 9 then .statusAndRecord else .status }

/-- What MARK_CTL of a marker reads. -/
def Marker.ctlWord (m : Marker) : Word :=
  m.phase.setWidth 16 ||| placedBit m.any 8 ||| placedBit (m.action = .statusAndRecord) 9

end Sys2Proof.Machine
end

