-- ==== Sys2Proof/Machine/Channels.lean ====
section
/-! DEFINITION. The Channel Table (Chapter 6): updates, held upper parts, host access to the entries
and the summary, the snapshot latch. -/

namespace Sys2Proof.Machine

/-- An update of an entry (R108). -/
def ChannelEntry.update (e : ChannelEntry) (value : BitVec 32) (fsn : Word) (phase : Option Nat)
    (flagged : Bool) : ChannelEntry :=
  { e with
    value := value
    fsn := fsn
    phase := phaseByte phase
    sampleCount := e.sampleCount + 1
    valid := true
    overrun := e.overrun || e.available
    available := true
    parity := e.parity || flagged }

/-- A deadband suppression (R109). -/
def ChannelEntry.suppress (e : ChannelEntry) : ChannelEntry :=
  { e with suppressedCount := stopInc e.suppressedCount }

/-- The entry without its held upper part. -/
def ChannelEntry.release (e : ChannelEntry) : ChannelEntry := { e with held := none }

/-- The entry with its dynamic fields at their power-on values (R119, Table 6-1). -/
def ChannelEntry.clearDynamic (e : ChannelEntry) : ChannelEntry :=
  { enable := e.enable, notify := e.notify, profile := e.profile }

/-- The number of held upper parts in the table. -/
def ChannelTable.heldCount (t : ChannelTable) : Nat :=
  t.entries.countP fun p => p.2.held.isSome

/-- Every held upper part is discarded (R110). -/
def ChannelTable.discard (t : ChannelTable) : ChannelTable :=
  { t with entries := Memory.mapAll {} ChannelEntry.release t.entries }

/-- The discard of every held upper part, each counted as a join fault (R103, R110, R111). -/
def discardHeld (s : State) : State :=
  { s with
    chan := s.chan.discard
    dec := { s.dec with joinFaults := stopAdd s.dec.joinFaults s.chan.heldCount }
    ev := s.ev.latchIf (decide (0 < s.chan.heldCount)) .joinFault }

/-- The dynamic fields of all 256 entries at their power-on values (R119). -/
def ChannelTable.clearAll (t : ChannelTable) : ChannelTable :=
  { t with entries := Memory.mapAll {} ChannelEntry.clearDynamic t.entries }

/-- A host write to word 0 of an entry: the configuration is set, and each of AVAILABLE, OVERRUN and
PARITY written as 1 is cleared, OVERRUN with AVAILABLE (R116). -/
def ChannelEntry.writeWord0 (e : ChannelEntry) (w : Word) : ChannelEntry :=
  { e with
    enable := bitAt w 0
    notify := bitAt w 1
    profile := BitVec.ofNat 4 (bitField w 4 4)
    available := e.available && !bitAt w 9
    overrun := e.overrun && !bitAt w 10 && !bitAt w 9
    parity := e.parity && !bitAt w 11 }

/-- Word k of the SUMMARY space: bit b is the AVAILABLE flag of channel 16k + b (R118). -/
def ChannelTable.summaryWord (t : ChannelTable) (k : Nat) : Word :=
  (List.range 16).foldl
    (fun acc b => acc ||| placedBit (t.entry (16 * k + b)).available b) 0

/-- What a read of the CHANNELS space returns: word 0 from the live entry; words 1 to 7 from the latch
when it holds the channel, else from the live entry (R113, R114). -/
def ChannelTable.readWord (t : ChannelTable) (offset : Nat) : Word :=
  let live := (t.entry (offset / 8)).word (offset % 8)
  if offset % 8 = 0 then live
  else match t.latch with
    | some l => if l.channel = offset / 8 then (l.words[offset % 8]?).getD 0 else live
    | none => live

/-- The read of word 0 of an entry loads the snapshot latch (R113). -/
def ChannelTable.latchAtRead (t : ChannelTable) (offset : Nat) : ChannelTable :=
  if offset % 8 = 0 then
    { t with latch := some { channel := offset / 8, words := (t.entry (offset / 8)).words } }
  else t

/-- The latch is emptied when TINDEX leaves the latched entry (R114). -/
def ChannelTable.atIndex (t : ChannelTable) (tindex : Nat) : ChannelTable :=
  match t.latch with
  | some l => if tindex / 8 = l.channel then t else { t with latch := none }
  | none => t

/-- The latch is emptied by every write to TSPACE (R174). -/
def ChannelTable.emptyLatch (t : ChannelTable) : ChannelTable := { t with latch := none }

end Sys2Proof.Machine
end

