-- ==== Sys2Proof/Machine/Maps.lean ====
section
/-! DEFINITION. The Map Store (Chapter 4): resolution of a word, host writes to a bank, validation, and
the swap of the banks. -/

namespace Sys2Proof.Machine

/-! ### Resolution (R64, R65) -/

/-- What a resolution hands on, its capture flag apart (R64). -/
inductive Resolution where
  | ignore
  | channel (number : Nat) (part : Part)
  | noSample
  | phaseUnknown
  deriving DecidableEq, Repr

/-- The resolved entry of a position: the entry, or the default entry where it is INHERIT (R61). -/
def MapBank.resolvedEntry (k : MapBank) (position : Nat) : Word :=
  match mapKind (k.mapWord position) with
  | .inherit => k.mapWord 0
  | .ignore | .channel _ _ | .subcom _ => k.mapWord position

/-- The pool entry of a list at a known phase (R65). -/
def MapBank.poolEntry (k : MapBank) (list phase : Nat) : Word :=
  k.poolWord (k.listStart list + phase % k.listLength list)

/-- The meaning of a resolved entry at the phase supplied (R64, R65). A default entry that is INHERIT
is no sample: validation keeps it out of every active bank (R61). -/
def MapBank.meaning (k : MapBank) (entry : Word) (phase : Option Nat) : Resolution :=
  match mapKind entry with
  | .ignore => .ignore
  | .inherit => .ignore
  | .channel c part => .channel c part
  | .subcom list =>
    match phase with
    | none => .phaseUnknown
    | some p =>
      match poolChannel (k.poolEntry list p) with
      | none => .noSample
      | some c => .channel c .whole

/-- The resolution of a position in the active bank (R64). -/
def MapStore.resolve (m : MapStore) (position : Nat) (phase : Option Nat) : Resolution :=
  (m.bank m.active).meaning ((m.bank m.active).resolvedEntry position) phase

/-- The capture flag of a position in the active bank (R61, R64). -/
def MapStore.captures (m : MapStore) (position : Nat) : Bool :=
  captureFlag ((m.bank m.active).resolvedEntry position)

/-! ### Host writes (R67, R68) -/

/-- The three spaces of a bank. -/
inductive BankSpace where
  | map
  | lists
  | pool
  deriving DecidableEq, Repr

/-- Whether a word encodes valid values for its space (R67). -/
def BankSpace.valid (sp : BankSpace) (offset : Nat) (w : Word) : Bool :=
  match sp with
  | .map => mapWordValid w
  | .lists => listWordValid offset w
  | .pool => poolWordValid w

/-- The word at an offset of a bank's space (R66). -/
def MapBank.readSpace (k : MapBank) (sp : BankSpace) (offset : Nat) : Word :=
  match sp with
  | .map => k.mapWord offset
  | .lists => k.listWord offset
  | .pool => k.poolWord offset

/-- The bank with a word stored (R67). -/
def MapBank.writeSpace (k : MapBank) (sp : BankSpace) (offset : Nat) (w : Word) : MapBank :=
  match sp with
  | .map => { k with map := Memory.write mapPowerOn k.map offset w }
  | .lists => { k with lists := Memory.write listPowerOn k.lists offset w }
  | .pool => { k with pool := Memory.write poolPowerOn k.pool offset w }

/-- Why a write inside a bank's space is refused, if it is: role, then swap state, then range
(R67, R68). -/
def MapStore.writeError (m : MapStore) (which : Bank) (sp : BankSpace) (offset : Nat) (w : Word) :
    Option HostError :=
  if which = m.active then some .bankActive
  else if m.swap ≠ .editable then some .bankBusy
  else if !sp.valid offset w then some .range
  else none

/-- A host write inside a bank's space (R67). -/
def writeBank (which : Bank) (sp : BankSpace) (offset : Nat) (w : Word) (s : State) : State :=
  match s.map.writeError which sp offset w with
  | some e => hostError e s
  | none => { s with map := s.map.setBank which ((s.map.bank which).writeSpace sp offset w) }

/-! ### Validation (R72) -/

/-- The fault of a list that a SUBCOM entry names, if any (R72). -/
def MapBank.listFault (k : MapBank) (list : Nat) : Option FaultReason :=
  if k.listLength list = 0 then some .listEmpty
  else if Config.poolWords < k.listStart list + k.listLength list then some .listRange
  else none

/-- The fault of the default entry, if any (R72). -/
def MapBank.defaultFault (k : MapBank) : Option FaultReason :=
  match mapKind (k.mapWord 0) with
  | .inherit => some .defaultInherit
  | .channel _ .whole => none
  | .channel _ _ => some .defaultPart
  | .subcom list => k.listFault list
  | .ignore => none

/-- The fault of a position, if any (R72). -/
def MapBank.positionFault (k : MapBank) (position : Nat) : Option FaultReason :=
  match mapKind (k.mapWord position) with
  | .subcom list => k.listFault list
  | .ignore | .channel _ _ | .inherit => none

/-- The first fault among the `n` positions from `position` on. -/
def MapBank.firstFault (k : MapBank) (position n : Nat) : Option (Nat × FaultReason) :=
  match n with
  | 0 => none
  | n + 1 =>
    match k.positionFault position with
    | some r => some (position, r)
    | none => k.firstFault (position + 1) n

/-- The outcome of a validation: `none` for a pass, else location and reason of the first failure
(R72). -/
def MapBank.validate (k : MapBank) : Option (Nat × FaultReason) :=
  match k.defaultFault with
  | some r => some (0, r)
  | none => k.firstFault 1 512

/-! ### Swap (R73 to R77) -/

/-- The banks exchange roles; the old active bank is the EDITABLE standby (R77). -/
def MapStore.swapped (m : MapStore) : MapStore :=
  { m with active := m.standby, swap := .editable }

/-- The SWAP event of a swap taken: its argument is the new active bank (R77). -/
def MapStore.swapEvent (m : MapStore) (fsn : Word) (coast : Bool) : Event :=
  { code := .swap, arg := placed m.standby.code 0, fsn := fsn, coast := coast }

/-- Whether a frame start takes the pending swap: DEPTH 1, or the phase not known, or known and 0
(R75). -/
def MapStore.takesAtFrameStart (m : MapStore) (depth : Nat) (phase : Option Nat) : Bool :=
  decide (m.swap = .pending) &&
    (decide (depth = 1) || decide (phase = none) || decide (phase = some 0))

/-- The store after a happening that takes the swap when `taken`. -/
def MapStore.swappedIf (m : MapStore) (taken : Bool) : MapStore :=
  if taken then m.swapped else m

/-- The events of a happening that takes the swap when `taken`. -/
def MapStore.swapEvents (m : MapStore) (taken : Bool) (fsn : Word) (coast : Bool) : List Event :=
  if taken then [m.swapEvent fsn coast] else []

/-- Whether a pending swap is taken at a happening that ends frame timing or the run (R76). -/
def MapStore.isPending (m : MapStore) : Bool := decide (m.swap = .pending)

/-- A swap taken at a happening at which no frame begins: FSN register, clear coast mark (R77). -/
def takeSwap (s : State) : State :=
  handEvents [[s.map.swapEvent s.fs.fsn false]] { s with map := s.map.swapped }

/-- A validation end that fails (R73). -/
def validationFailed (location : Nat) (reason : FaultReason) (s : State) : State :=
  { s with
    map := { s.map with swap := .editable
                        fault := { bank := s.map.standby, location := location, reason := reason } }
    ev := s.ev.latch .swapFailed }

/-- A validation end that passes: the fault record is cleared, and the swap is taken at once unless a
frame is being decoded (R74). -/
def validationPassed (s : State) : State :=
  let t := { s with map := { s.map with
    fault := { bank := s.map.standby, location := 0, reason := .noFault } } }
  if s.run = .run ∧ s.fs.sync.inLock then { t with map := { t.map with swap := .pending } }
  else takeSwap t

/-- The end of a validation; without one under way there is no such happening (R71, log 2). -/
def endValidation (s : State) : State :=
  if s.map.swap = .validating then
    match (s.map.bank s.map.standby).validate with
    | some (location, reason) => validationFailed location reason s
    | none => validationPassed s
  else s

end Sys2Proof.Machine
end

