-- ==== Sys2Proof/Machine/Profiles.lean ====
section
/-! DEFINITION. The Profile Table and the Word Decoder (Chapter 5): staging and commit, and the word
decode of Table 5-3. -/

namespace Sys2Proof.Machine

/-! ### Staging and commit (R85, R86) -/

/-- The staging record that a write to a word of profile n works on: the one held, if it holds n, else
a fresh copy of the committed words 0 to 2 (R85). -/
def ProfileTable.stagingFor (t : ProfileTable) (n : Nat) : Staging :=
  let fresh : Staging :=
    { number := n, word0 := (t.profile n).word 0, word1 := (t.profile n).word 1
      word2 := (t.profile n).word 2 }
  match t.staging with
  | some g => if g.number = n then g else fresh
  | none => fresh

/-- A staging record with word k replaced (R85). -/
def Staging.set (g : Staging) (k : Nat) (w : Word) : Staging :=
  match k with
  | 0 => { g with word0 := w }
  | 1 => { g with word1 := w }
  | _ => { g with word2 := w }

/-- A host write to word 0, 1 or 2 of profile n (R85). -/
def ProfileTable.stage (t : ProfileTable) (n k : Nat) (w : Word) : ProfileTable :=
  { t with staging := some ((t.stagingFor n).set k w) }

/-- The candidate profile of a commit of profile n (R86). -/
def ProfileTable.candidate (t : ProfileTable) (n : Nat) (w : Word) : Option Profile :=
  let g := t.stagingFor n
  profileOf g.word0 g.word1 g.word2 w

/-- The table after an accepted commit (R86). -/
def ProfileTable.commit (t : ProfileTable) (n : Nat) (p : Profile) : ProfileTable :=
  { profiles := Memory.write {} t.profiles n p, staging := none }

/-- The table after a refused commit: a staging record of another number is discarded (R86). -/
def ProfileTable.refuseCommit (t : ProfileTable) (n : Nat) : ProfileTable :=
  { t with staging := t.staging.filter fun g => decide (g.number = n) }

/-- A host write to the PROFILES space (R85, R86). -/
def writeProfile (offset : Nat) (w : Word) (s : State) : State :=
  if offset % 4 = 3 then
    match s.prof.candidate (offset / 4) w with
    | some p => { s with prof := s.prof.commit (offset / 4) p }
    | none => hostError .profileInvalid { s with prof := s.prof.refuseCommit (offset / 4) }
  else { s with prof := s.prof.stage (offset / 4) (offset % 4) w }

/-! ### The steps of a decode (R91 to R100) -/

/-- A completed word as it is delivered: position, raw value, the frame's FSN and coast flag, and the
phase supplied, `none` when it is not known (R32, R44). -/
structure WordInfo where
  position : Nat
  raw : Word
  fsn : Word
  coast : Bool
  phase : Option Nat
  deriving DecidableEq, Repr

/-- The ordered word (R91). -/
def orderedWord (order : BitOrder) (wlen : Nat) (raw : Word) : Nat :=
  match order with
  | .msbFirst => raw.toNat
  | .lsbFirst => (raw.reverse >>> (16 - wlen)).toNat

/-- Whether a word fails the parity check over its WLEN raw bits (R92). -/
def parityFails (parity : Parity) (wlen : Nat) (raw : Word) : Bool :=
  let ones := (List.range wlen).countP fun i => raw.getLsbD i
  match parity with
  | .noParity => false
  | .odd => decide (ones % 2 = 0)
  | .even => decide (ones % 2 = 1)

/-- The joined raw value of a held part and a LOWER word (R95). -/
def joinedValue (order : BitOrder) (wlen : Nat) (upper lower : Word) : Nat :=
  orderedWord order wlen upper * 2 ^ wlen + orderedWord order wlen lower

/-- The field of a value taken to extraction; bits above the value read 0 (R97). -/
def Profile.field (p : Profile) (value : Nat) : Nat :=
  (value / 2 ^ p.fieldLsb) % 2 ^ p.fieldWidth

/-- The coded value of a field of width w (R99, Table 5-4). -/
def codedValue (coding : Coding) (w field : Nat) : Int :=
  match coding with
  | .unsigned => field
  | .twos => if field < 2 ^ (w - 1) then (field : Int) else (field : Int) - 2 ^ w
  | .offset => (field : Int) - 2 ^ (w - 1)
  | .signMag =>
    if field < 2 ^ (w - 1) then (field : Int) else -((field % 2 ^ (w - 1) : Nat) : Int)

/-- The stored value read as an integer under a coding (R100). -/
def storedValue (coding : Coding) (value : BitVec 32) : Int :=
  match coding with
  | .unsigned => value.toNat
  | .twos | .offset | .signMag => value.toInt

/-- Whether a coded value is suppressed by the deadband (R100). -/
def suppresses (p : Profile) (e : ChannelEntry) (v : Int) : Bool :=
  e.valid && decide ((v - storedValue p.coding e.value).natAbs < p.deadband.toNat)

/-- What the decode of one word does: the entry it leaves, what it counts, whether a notifying channel
was updated, and the SAMPLE record it offers. -/
structure DecodeEffect where
  entry : ChannelEntry
  parityError : Bool := false
  joinFault : Bool := false
  null : Bool := false
  ready : Bool := false
  record : Option Rec := none
  deriving DecidableEq, Repr

/-- Steps 7 to 12 of Table 5-3, on the value taken to extraction (R97 to R102). -/
def decodeValue (p : Profile) (c : Nat) (i : WordInfo) (value : Nat) (flagged parityError : Bool)
    (e : ChannelEntry) : DecodeEffect :=
  let field := p.field value
  let v := codedValue p.coding p.fieldWidth field
  if p.nullEn && decide (field = p.nullValue.toNat) then
    { entry := e, parityError := parityError, null := true }
  else if suppresses p e v then
    { entry := e.suppress, parityError := parityError }
  else
    { entry := e.update (BitVec.ofInt 32 v) i.fsn i.phase flagged
      parityError := parityError
      ready := e.notify
      record :=
        if p.dest = .tableQueue then
          some (sampleRecord i.fsn c (phaseByte i.phase) (BitVec.ofInt 32 v) i.coast flagged
            e.available)
        else none }

/-- The decode of a WHOLE word (R93). -/
def decodeWhole (p : Profile) (wlen c : Nat) (i : WordInfo) (e : ChannelEntry) : DecodeEffect :=
  let fails := parityFails p.parity wlen i.raw
  if fails && decide (p.parityAction = .drop) then { entry := e, parityError := true }
  else decodeValue p c i (orderedWord p.order wlen i.raw) fails fails e

/-- The decode of an UPPER word: the raw word is held; a part already held is replaced with a join
fault (R94). -/
def decodeUpper (p : Profile) (wlen : Nat) (i : WordInfo) (e : ChannelEntry) : DecodeEffect :=
  let fails := parityFails p.parity wlen i.raw
  { entry := { e with held := some { raw := i.raw, failed := fails } }
    parityError := fails
    joinFault := e.held.isSome }

/-- The decode of a LOWER word (R95, R96). -/
def decodeLower (p : Profile) (wlen c : Nat) (i : WordInfo) (e : ChannelEntry) : DecodeEffect :=
  let fails := parityFails p.parity wlen i.raw
  if fails && decide (p.parityAction = .drop) then { entry := e.release, parityError := true }
  else match e.held with
    | none => { entry := e, parityError := fails, joinFault := true }
    | some h =>
      if h.failed && decide (p.parityAction = .drop) then
        { entry := e.release, parityError := fails }
      else
        decodeValue p c i (joinedValue p.order wlen h.raw i.raw) (fails || h.failed) fails e.release

/-- Steps 3 to 12 of Table 5-3 on an enabled channel (R90). -/
def decodePart (p : Profile) (wlen c : Nat) (part : Part) (i : WordInfo) (e : ChannelEntry) :
    DecodeEffect :=
  match part with
  | .whole => decodeWhole p wlen c i e
  | .upper => decodeUpper p wlen i e
  | .lower => decodeLower p wlen c i e

/-- The decode of a word of channel c: nothing where the channel is disabled (R90). -/
def decodeChannel (s : State) (c : Nat) (part : Part) (i : WordInfo) : DecodeEffect :=
  let e := s.chan.entry c
  if e.enable then
    decodePart (s.prof.profile e.profile.toNat) s.fmt.wlen c part i e
  else { entry := e }

/-- The effect of a decode on the machine, its SAMPLE offer apart (R101 to R103). -/
def applyDecode (c : Nat) (d : DecodeEffect) (s : State) : State :=
  { s with
    chan := s.chan.setEntry c d.entry
    dec := { s.dec with
      parityErrors := stopIncIf d.parityError s.dec.parityErrors
      joinFaults := stopIncIf d.joinFault s.dec.joinFaults
      nulls := stopIncIf d.null s.dec.nulls }
    ev := ((s.ev.latchIf d.parityError .parityErr).latchIf d.joinFault .joinFault).latchIf
      d.ready .channelReady }

/-- The word decode happening, its SAMPLE offer apart (R88, R89). -/
def decodeWord (i : WordInfo) (s : State) : State :=
  match s.map.resolve i.position i.phase with
  | .ignore | .noSample => s
  | .phaseUnknown => { s with dec := { s.dec with subcomSkips := stopInc s.dec.subcomSkips } }
  | .channel c part => applyDecode c (decodeChannel s c part i) s

/-- The SAMPLE record that the decode of a word offers, if any (R101). -/
def sampleOffered (i : WordInfo) (s : State) : List Rec :=
  match s.map.resolve i.position i.phase with
  | .ignore | .noSample | .phaseUnknown => []
  | .channel c part => (decodeChannel s c part i).record.toList

end Sys2Proof.Machine
end

