-- ==== Sys2Proof/Machine/Subframe.lean ====
section
/-! DEFINITION. The Subframe Synchronizer (Chapter 3): SFID readings, the phase step, the loss and the
end of frame timing. -/

namespace Sys2Proof.Machine

/-- The SFID field of a raw word (R43). -/
def Format.sfidField (f : Format) (raw : Word) : Nat :=
  (raw.toNat / 2 ^ f.sfidLsb) % f.sfidModulus

/-- What a reading raises (Table 3-3). -/
inductive SubEvent where
  | noEvent
  | locked (phase : Nat)
  | lost
  deriving DecidableEq, Repr

/-- A reading examined in SF_SEARCH: a value that maps to a phase takes it (R46). -/
def SubframeSync.examine (f : Format) (v : Nat) : SubframeSync :=
  match f.phaseOfSfid v with
  | some p => { state := .check, held := some p, goodCount := 0, missCount := 0 }
  | none => { state := .search, held := none, goodCount := 0, missCount := 0 }

/-- A reading in SF_CHECK (R47, R48). -/
def SubframeSync.readCheck (f : Format) (v : Nat) (sf : SubframeSync) : SubframeSync × SubEvent :=
  if sf.held.map f.sfidOfPhase = some v then
    if sf.goodCount + 1 < f.sfCheckCount then
      ({ sf with goodCount := sf.goodCount + 1 }, .noEvent)
    else
      ({ sf with state := .lock, goodCount := 0, missCount := 0 }, .locked (sf.held.getD 0))
  else (SubframeSync.examine f v, .noEvent)

/-- A reading in SF_LOCK (R49, R50). -/
def SubframeSync.readLock (f : Format) (v : Nat) (sf : SubframeSync) : SubframeSync × SubEvent :=
  if sf.held.map f.sfidOfPhase = some v then ({ sf with missCount := 0 }, .noEvent)
  else if sf.missCount + 1 < f.sfMiss then
    ({ sf with missCount := sf.missCount + 1 }, .noEvent)
  else ({ state := .search, held := none, goodCount := 0, missCount := 0 }, .lost)

/-- One SFID reading (Table 3-3). In SF_OFF no reading is taken (R43). -/
def SubframeSync.read (f : Format) (v : Nat) (sf : SubframeSync) : SubframeSync × SubEvent :=
  match sf.state with
  | .off => (sf, .noEvent)
  | .search => (SubframeSync.examine f v, .noEvent)
  | .check => sf.readCheck f v
  | .lock => sf.readLock f v

/-- The events of a reading, with the FSN and the coast mark of the frame read (R51, R52). -/
def SubEvent.events (e : SubEvent) (fsn : Word) (coast : Bool) : List Event :=
  match e with
  | .noEvent => []
  | .locked p => [{ code := .sfLock, arg := placed p 0, fsn := fsn, coast := coast }]
  | .lost => [{ code := .sfLost, arg := 0, fsn := fsn, coast := coast }]

/-- The word-complete happening at the Subframe Synchronizer: a reading at SFID_POS with DEPTH above
1 (R43). -/
def SubframeSync.wordComplete (f : Format) (position : Nat) (raw : Word) (sf : SubframeSync) :
    SubframeSync × SubEvent :=
  if position = f.sfidPos ∧ 1 < f.depth then sf.read f (f.sfidField raw) else (sf, .noEvent)

/-- The phase step at the frame start of a decoded frame (R45). -/
def SubframeSync.frameStart (f : Format) (decoded : Bool) (sf : SubframeSync) : SubframeSync :=
  if decoded ∧ (sf.state = .check ∨ sf.state = .lock) then
    { sf with held := sf.held.map fun p => (p + 1) % f.depth }
  else sf

/-- The loss of frame timing (R53). -/
def SubframeSync.timingLost (f : Format) (sf : SubframeSync) : SubframeSync :=
  if 1 < f.depth then { state := .search, held := none, goodCount := 0, missCount := 0 } else sf

/-- The SF_LOST event of a loss of frame timing in SF_LOCK: FSN register plus one, clear coast mark
(R52, R53). -/
def SubframeSync.timingLostEvents (f : Format) (fsn : Word) (sf : SubframeSync) : List Event :=
  if 1 < f.depth ∧ sf.state = .lock then
    [{ code := .sfLost, arg := 0, fsn := fsn + 1, coast := false }]
  else []

/-- Entering RUN (R54). -/
def SubframeSync.enterRun (f : Format) : SubframeSync :=
  if 1 < f.depth then { state := .search, held := none, goodCount := 0, missCount := 0 }
  else { state := .off, held := some 0, goodCount := 0, missCount := 0 }

end Sys2Proof.Machine
end

