-- ==== Sys2Proof/Machine/Frames.lean ====
section
/-! DEFINITION. The Frame Synchronizer (Chapter 2): the bit history and correlation, the sync checks,
frame starts, word completion, and the departures from lock. -/

namespace Sys2Proof.Machine

/-! ### Frame layout, history and correlation (R1, R18, R19) -/

/-- The frame length in bits (R1). -/
def Format.frameLength (f : Format) : Nat := f.syncLen + f.wpf * f.wlen

/-- The position of the data word whose last bit lies at a frame offset, if any (R1, R21). -/
def Format.completedAt (f : Format) (offset : Nat) : Option Nat :=
  let data := offset + 1 - f.syncLen
  if data % f.wlen = 0 ∧ 1 ≤ data / f.wlen ∧ data / f.wlen ≤ f.wpf then some (data / f.wlen)
  else none

/-- The compared-bit count (R6). -/
def Format.comparedBits (f : Format) : Nat :=
  (List.range f.syncLen).countP fun i => f.syncMask.getLsbD i

/-- A bit enters the history; the oldest of 52 leaves it (R18). -/
def FrameSync.push (fs : FrameSync) (bit : Bool) : FrameSync :=
  { fs with
    history := (fs.history <<< 1) ||| (if bit then 1 else 0)
    fill := min Config.historyBits (fs.fill + 1) }

/-- The bit received `k` bits before the newest one. -/
def FrameSync.bitBefore (fs : FrameSync) (k : Nat) : Bool := fs.history.getLsbD k

/-- The distance of the candidate that ends `back` bits before the newest bit (R19). -/
def FrameSync.distance (fs : FrameSync) (f : Format) (back : Nat) : Nat :=
  (List.range f.syncLen).countP fun i =>
    f.syncMask.getLsbD i && (fs.bitBefore (i + back) != f.syncPattern.getLsbD i)

/-- The raw value of the word whose last bit is the newest bit (R1, log 21). -/
def FrameSync.rawWord (fs : FrameSync) (wlen : Nat) : Word :=
  BitVec.ofNat 16 (fs.history.toNat % 2 ^ wlen)

/-- The history emptied (R18). -/
def FrameSync.emptyHistory (fs : FrameSync) : FrameSync := { fs with history := 0, fill := 0 }

/-! ### Word completion (R32) -/

/-- The information a word-complete happening carries (R32, R44). -/
def State.wordInfo (s : State) (position : Nat) : WordInfo :=
  { position := position
    raw := s.fs.rawWord s.fmt.wlen
    fsn := s.fs.fsn
    coast := s.fs.coastMark
    phase := s.knownPhase }

/-- The reactions of the Capture Unit, the Subframe Synchronizer and the markers to a completed word,
their offers apart (R125, R43, R170). -/
def reactToWord (i : WordInfo) (s : State) : State :=
  let reading := s.sf.wordComplete s.fmt i.position i.raw
  { s with
    sf := reading.1
    cap := s.cap.wordComplete (decide (i.position = s.fmt.wpf)) (s.map.captures i.position) i.raw
    ev := (s.ev.setHits (s.ev.hitMarkers i.position i.phase)).latchIf
      (decide (reading.2 = .lost)) .sfLost |>.latchIf
      (decide (reading.2 ≠ .lost ∧ reading.2 ≠ .noEvent)) .sfGained }

/-- The records that a completed word brings, block by block: the Word Decoder's SAMPLE, the Capture
Unit's FRAME, the Subframe Synchronizer's event, the MARK records (8.10). -/
def wordRecords (i : WordInfo) (s : State) : List (List Rec) :=
  let reading := s.sf.wordComplete s.fmt i.position i.raw
  [sampleOffered i s,
   s.cap.frameOffered (decide (i.position = s.fmt.wpf)) (s.map.captures i.position) i.raw,
   eventRecords s.ev (reading.2.events i.fsn i.coast),
   s.ev.markRecords (s.ev.hitMarkers i.position i.phase) i.fsn i.coast]

/-- The discard of held parts at word WPF, after the decode of that word (R110). -/
def discardAtWpf (position : Nat) (s : State) : State :=
  if position = s.fmt.wpf then discardHeld s else s

/-- The word-complete happening of a decoded frame (R32, R88). Every block sees the state as the
happening finds it; their offers follow, in a free order between blocks. -/
def wordComplete (position : Nat) (s : State) : State :=
  let i := s.wordInfo position
  offerBlocks (wordRecords i s) (discardAtWpf position (reactToWord i (decodeWord i s)))

/-- The word, if any, that the newest bit completes: delivered when the frame is decoded (R32). -/
def deliverWord (s : State) : State :=
  match s.fmt.completedAt s.fs.offset with
  | some position => if s.fs.decodedMark then wordComplete position s else s
  | none => s

/-! ### Frame starts (R31) -/

/-- The phase known at a frame start: that of the state after the step (R45). -/
def phaseAtStart (decoded : Bool) (s : State) : Option Nat :=
  { s with sf := s.sf.frameStart s.fmt decoded }.knownPhase

/-- A frame start: the Subframe Synchronizer steps, the Map Store may take a pending swap, the Capture
Unit chooses; the synchronizer's events and the SWAP event are handed together (R31, R35, R75, R77,
R123). `fs` is the Frame Synchronizer after the check. -/
def startFrame (fs : FrameSync) (slip : Int) (first : Bool) (events : List Event) (s : State) : State :=
  let phase := phaseAtStart fs.decodedMark s
  let taken := s.map.takesAtFrameStart s.fmt.depth phase
  handEvents [events, s.map.swapEvents taken fs.fsn fs.coastMark]
    { s with
      fs := fs
      sf := s.sf.frameStart s.fmt fs.decodedMark
      map := s.map.swappedIf taken
      cap := s.cap.frameStart
        { fsn := fs.fsn, decoded := fs.decodedMark, coast := fs.coastMark, slip := slip
          first := first } phase }

/-! ### Entry into SEARCH (R36) -/

/-- The interruption of a decoded frame: held parts are discarded, a capture is abandoned (R33). -/
def interruptFrame (s : State) : State := discardHeld { s with cap := s.cap.abandon }

/-- The LOST event of an entry into SEARCH: FSN register plus one, clear coast mark (R35). -/
def lostEvent (fsn : Word) (reason : LostReason) : Event :=
  { code := .lost, arg := placed reason.code 0, fsn := fsn + 1, coast := false }

/-- The synchronizer in SEARCH: counts 0, marks clear; history, offset and FSN kept (R36). -/
def FrameSync.toSearch (fs : FrameSync) : FrameSync :=
  { fs with
    sync := .search
    goodCount := 0
    missCount := 0
    decodedMark := false
    coastMark := false }

/-- The entry into SEARCH from CHECK, LOCK or COAST with the Frame Synchronizer's own events: the
Subframe Synchronizer and the Map Store are told (R36, R53, R76). -/
def enterSearch (events : List Event) (s : State) : State :=
  handEvents
    [events, s.sf.timingLostEvents s.fmt s.fs.fsn,
     s.map.swapEvents s.map.isPending s.fs.fsn false]
    { s with
      fs := s.fs.toSearch
      sf := s.sf.timingLost s.fmt
      map := s.map.swappedIf s.map.isPending }

/-- Frame timing given up by RESYNC or a clock loss: from LOCK or COAST with a LOST event and the
interruption of the frame, from CHECK without, elsewhere nothing (R37, R38). -/
def abandonTiming (reason : LostReason) (s : State) : State :=
  match s.fs.sync with
  | .lock | .coast => enterSearch [lostEvent s.fs.fsn reason] (interruptFrame s)
  | .check => enterSearch [] s
  | .off | .search => s

/-! ### Sync checks -/

/-- The sync is found in SEARCH: CHECK, FSN 0, a frame start that is not decoded (R20). -/
def syncFound (s : State) : State :=
  startFrame
    { s.fs with
      sync := .check
      goodCount := 0
      offset := s.fmt.syncLen - 1
      fsn := 0
      decodedMark := false
      coastMark := false }
    0 false [] s

/-- A bit in SEARCH, already in the history: the candidate ending with it is correlated when the
history holds SYNC_LEN bits (R18, R20). -/
def searchBit (s : State) : State :=
  if s.fmt.syncLen ≤ s.fs.fill ∧ s.fs.distance s.fmt 0 ≤ s.fmt.tolSearch then syncFound s else s

/-- The sync check in CHECK, at the expected sync end (R22). -/
def checkInCheck (s : State) : State :=
  if s.fs.distance s.fmt 0 ≤ s.fmt.tolCheck then
    if s.fs.goodCount + 1 < s.fmt.checkCount then
      startFrame
        { s.fs with
          goodCount := s.fs.goodCount + 1
          offset := s.fmt.syncLen - 1
          fsn := s.fs.fsn + 1
          decodedMark := false
          coastMark := false }
        0 false [] s
    else
      startFrame
        { s.fs with
          sync := .lock
          goodCount := 0
          missCount := 0
          offset := s.fmt.syncLen - 1
          fsn := s.fs.fsn + 1
          decodedMark := true
          coastMark := false }
        0 true [{ code := .lock, arg := 0, fsn := s.fs.fsn + 1, coast := false }] s
  else enterSearch [] s

/-- The offsets of the slip window in the order they are tried (R24). -/
def slipOrder (slipWin : Nat) : List Int :=
  [0, -1, 1, -2, 2].filter fun o => decide (o.natAbs ≤ slipWin)

/-- The offset of the candidate that a check in LOCK or COAST takes, `none` for a miss (R23, R24). -/
def State.takenOffset (s : State) : Option Int :=
  (slipOrder s.fmt.slipWin).find? fun o =>
    decide (s.fs.distance s.fmt ((s.fmt.slipWin : Int) - o).toNat ≤ s.fmt.tolLock)

/-- The events of a pass: RELOCK from COAST, then SLIP at a nonzero offset (R26, R28). -/
def passEvents (fs : FrameSync) (o : Int) : List Event :=
  (if fs.sync = .coast then
    [{ code := .relock, arg := 0, fsn := fs.fsn + 1, coast := false }] else [])
  ++ (if o = 0 then [] else
    [{ code := .slip, arg := BitVec.ofInt 16 o, fsn := fs.fsn + 1, coast := false }])

/-- A pass in LOCK or COAST at offset o (R25, R26, R28, R29). -/
def syncPass (o : Int) (s : State) : State :=
  startFrame
    { s.fs with
      sync := .lock
      missCount := 0
      offset := ((s.fmt.syncLen : Int) - 1 + s.fmt.slipWin - o).toNat
      fsn := s.fs.fsn + 1
      decodedMark := true
      coastMark := false
      slips := stopIncIf (decide (o ≠ 0)) s.fs.slips }
    o false (passEvents s.fs o) s

/-- A miss in LOCK or COAST: COAST on the expected timing, or SEARCH when the misses reach LOCK_MISS
(R27 to R29). -/
def syncMiss (s : State) : State :=
  let misses := s.fs.missCount + 1
  let counted := { s.fs with syncMisses := stopInc s.fs.syncMisses }
  if misses < s.fmt.lockMiss then
    startFrame
      { counted with
        sync := .coast
        missCount := misses
        offset := s.fmt.syncLen - 1 + s.fmt.slipWin
        fsn := s.fs.fsn + 1
        decodedMark := true
        coastMark := true }
      0 false [{ code := .coast, arg := placed misses 0, fsn := s.fs.fsn + 1, coast := true }] s
  else enterSearch [lostEvent s.fs.fsn .misses] { s with fs := counted }

/-- The sync check in LOCK or COAST, with the completion of position 1 when the bits already received
complete it (R24, R29). -/
def checkInLock (s : State) : State :=
  match s.takenOffset with
  | some o => deliverWord (syncPass o s)
  | none => if s.fs.missCount + 1 < s.fmt.lockMiss then deliverWord (syncMiss s) else syncMiss s

/-! ### One bit (R18, R21) -/

/-- The Frame Synchronizer takes one bit (R18 to R29, R32). -/
def syncBit (bit : Bool) (s : State) : State :=
  let pushed := { s with fs := s.fs.push bit }
  let advanced := { s with fs := { s.fs.push bit with offset := s.fs.offset + 1 } }
  let syncEnd := s.fmt.frameLength + s.fmt.syncLen - 1
  match s.fs.sync with
  | .off => s
  | .search => searchBit pushed
  | .check => if s.fs.offset + 1 = syncEnd then checkInCheck advanced else deliverWord advanced
  | .lock | .coast =>
    if s.fs.offset + 1 = syncEnd + s.fmt.slipWin then checkInLock advanced else deliverWord advanced

/-- The Clock Monitor at a selected edge (R8); `due` says whether the edge is taken in the period in
which the timer would have expired (R10, R57). -/
def ClockMonitor.edge (due : Bool) (clklossUs : Nat) : ClockMonitor :=
  { present := true
    timer := if clklossUs = 0 then .stopped else .running 0
    overtaken := due }

/-- A selected edge of PCM_CLK: the Clock Monitor restarts, and the sampled bit, complemented under
INPUT_INVERT, goes to the Frame Synchronizer (R7, R8). -/
def acceptBit (level : Bool) (s : State) : State :=
  syncBit (level != s.fmt.inputInvert) { s with clock := .edge s.clockExpires s.fmt.clklossUs }

/-- The clock-loss happening (R9, R38). -/
def clockLost (s : State) : State :=
  let t := abandonTiming .clock
    { s with
      clock := { present := false, timer := .stopped }
      ev := s.ev.latch .clockLoss }
  if s.fs.sync = .off then t else { t with fs := t.fs.emptyHistory }

/-- The newest bit completed word SFID_POS of a decoded frame and so gave a reading (R43). -/
def State.readingTaken (s : State) : Bool :=
  s.fs.decodedMark && decide (1 < s.fmt.depth)
    && decide (s.fmt.completedAt s.fs.offset = some s.fmt.sfidPos)

/-- A clock loss follows, in the same period, the bit that overtook it: R57 has it for a bit that gave a
reading; for any other bit R10 has none. -/
def State.lossFollowsReading (s : State) : Bool := s.clock.overtaken && s.readingTaken

/-- The expiry of the loss timer as a command: the clock-loss happening in the period in which the timer
reaches its interval (R8, log 3), and in the same period after the bit that was taken first and gave a
reading (R57); else no expiry: not after another edge taken first, which restarts the timer from zero
(R10), and not with a stopped timer (log 2). DESIGN CHOICE (log 24): for the bit with a reading R10's
outcome stands beside R57's, as the queue without this command. -/
def loseClock (s : State) : State :=
  if s.clockExpires || s.lossFollowsReading then clockLost s else s

end Sys2Proof.Machine
end

