-- ==== Sys2Proof/Machine/Port.lean ====
section
/-! DEFINITION. The reading side of the Record Queue (Chapter 8: pops, SKIP_RECORD, QFLUSH, the route)
and the Record Output Port (Chapter 9). -/

namespace Sys2Proof.Machine

/-! ### Consuming words (R139, R142) -/

/-- Whether the next word consumed is the last of the head record. -/
def RecordQueue.lastWord (q : RecordQueue) : Bool := decide (q.head.length ≤ q.consumed + 1)

/-- One word of the head record is consumed; the last one removes the record (R139, R142). -/
def RecordQueue.consume (q : RecordQueue) : RecordQueue :=
  if q.lastWord then { q with store := q.store.tail, consumed := 0, begun := false }
  else { q with consumed := q.consumed + 1 }

/-- The head record is removed with its unread words (R141). -/
def RecordQueue.skip (q : RecordQueue) : RecordQueue :=
  { q with store := q.store.tail, consumed := 0, begun := false }

/-- Every record is discarded and the pending-gap count cleared (R143). -/
def RecordQueue.flush (q : RecordQueue) : RecordQueue :=
  { q with store := [], consumed := 0, begun := false, gapPending := 0 }

/-! ### The port's lines and timer

RO_CLK takes the programmed divisor at the falling edge at which a word, a pause or an IDLE begins, or
when RO_CLK starts (R151, R156). -/

/-- The stall timer as a pause begins: it runs when PORT_STALL_MS is above 0 (R154). -/
def stallStart (stallMs : Nat) : Timer := if stallMs = 0 then .stopped else .running 0

/-- A word begins on the lines: RO_FRM high, bit 15 on RO_DAT (R152, R153). -/
def OutputPort.beginWord (p : OutputPort) (w : Word) : OutputPort :=
  { p with mode := .sending, inFlight := some 0, stall := .stopped, stallExpired := false
           clk := some p.portDiv, frm := true, dat := bitAt w 15 }

/-- A pause begins at a falling edge: RO_DAT low, RO_FRM as it stands (R154). -/
def OutputPort.pause (p : OutputPort) : OutputPort :=
  { p with mode := .paused, inFlight := none, stall := stallStart p.stallMs, stallExpired := false
           clk := some p.portDiv, dat := false }

/-- A record ends at a word boundary: RO_FRM and RO_DAT low; IDLE, with the new divisor, when the store
is empty (R153). -/
def OutputPort.endRecord (p : OutputPort) (storeEmpty : Bool) : OutputPort :=
  { p with mode := if storeEmpty then .idle else .sending, inFlight := none, frm := false
           dat := false, clk := if storeEmpty then some p.portDiv else p.clk }

/-- The port at a QFLUSH: a record begun is aborted, a pause ends, and it rests in IDLE; in OFF it stays
(R157). RO_CLK keeps its half-period: the flush is no falling edge (log 13). -/
def OutputPort.flushed (p : OutputPort) : OutputPort :=
  { p with mode := if p.mode = .off then .off else .idle, inFlight := none, stall := .stopped
           stallExpired := false, frm := false, dat := false }

/-- The port leaves OFF: IDLE or SENDING by the store; RO_CLK starts (R151). -/
def OutputPort.leaveOff (p : OutputPort) (storeEmpty : Bool) : OutputPort :=
  { p with mode := if storeEmpty then .idle else .sending, clk := some p.portDiv }

/-- The port goes to OFF: RO_CLK stops low, the stall timer stops (R151). -/
def OutputPort.enterOff (p : OutputPort) : OutputPort :=
  { p with mode := .off, inFlight := none, stall := .stopped, stallExpired := false
           clk := none, frm := false, dat := false }

/-- A PORT_CONFIG write (R156). -/
def OutputPort.configure (p : OutputPort) (div stallMs : Nat) : OutputPort :=
  { p with
    portDiv := div
    stallMs := stallMs
    stall := if p.mode = .paused ∧ p.stallExpired = false then stallStart stallMs else p.stall }

/-! ### The route (R144, R145) -/

/-- Whether a pending route change can be taken: the store is empty or its head untouched (R145). -/
def RecordQueue.takesRoute (q : RecordQueue) : Bool :=
  q.routePending && (decide (q.store = []) || q.untouched)

/-- The port as the active route changes (R151). -/
def OutputPort.routed (p : OutputPort) (route : Route) (storeEmpty : Bool) : OutputPort :=
  match route with
  | .port => p.leaveOff storeEmpty
  | .host => p.enterOff

/-- The queue after a happening at which a pending route change may be taken (R145). -/
def RecordQueue.settled (q : RecordQueue) : RecordQueue :=
  { q with active := if q.takesRoute then q.requested else q.active }

/-- The port after such a happening at the queue `q` (R151). -/
def OutputPort.settled (p : OutputPort) (q : RecordQueue) : OutputPort :=
  if q.takesRoute then p.routed q.requested (decide (q.store = [])) else p

/-- A pending route change is taken if the head is whole again or gone (R145). -/
def settleRoute (s : State) : State :=
  { s with queue := s.queue.settled, port := s.port.settled s.queue }

/-- A ROUTE write (R144). -/
def writeRoute (w : Word) (s : State) : State :=
  settleRoute { s with
    queue := { s.queue with requested := if bitAt w 0 then .port else .host } }

/-! ### Host route (R139 to R143) -/

/-- Whether a read of QDATA pops a word: active route HOST and a store that holds one (R139). -/
def RecordQueue.pops (q : RecordQueue) : Bool := decide (q.active = .host) && decide (q.store ≠ [])

/-- What a read of QDATA returns (R139, R140). -/
def RecordQueue.qdata (q : RecordQueue) : Word := if q.pops then q.nextWord else 0

/-- The bus holds the word a read drove (log 9). -/
def driveBus (w : Word) (s : State) : State := { s with host := { s.host with dataBus := some w } }

/-- A read of QDATA (R139, R140). -/
def readQdata (s : State) : State :=
  driveBus s.queue.qdata
    (if s.queue.pops then settleRoute { s with queue := s.queue.consume }
     else hostError .qdataEmpty s)

/-- Whether SKIP_RECORD is refused (R141). -/
def RecordQueue.refusesSkip (q : RecordQueue) : Bool :=
  decide (q.active = .port) || decide (q.store = [])

/-- The effect of SKIP_RECORD when it is accepted (R141). -/
def skipHead (s : State) : State := settleRoute { s with queue := s.queue.skip }

/-- The effect of QFLUSH (R143, R157). -/
def flushQueue (s : State) : State :=
  settleRoute { s with queue := s.queue.flush, port := s.port.flushed }

/-! ### Falling edges of RO_CLK (R152 to R154) -/

/-- The port begins the head record (R152). -/
def beginRecord (s : State) : State :=
  { s with
    queue := { s.queue with begun := true }
    port := s.port.beginWord s.queue.nextWord }

/-- The sample of RO_RDY before a header: the record begins, or the port pauses (R152). It arises only
in SENDING with the head not begun (log 2). -/
def portBegin (rdy : Bool) (s : State) : State :=
  if s.port.mode = .sending ∧ s.queue.begun = false then
    if rdy then beginRecord s else { s with port := s.port.pause }
  else s

/-- The next bit of the word in flight is driven (R153). At 15 bits sent the falling edge is the word's
boundary instead. -/
def portBit (s : State) : State :=
  match s.port.inFlight with
  | some n =>
    if s.port.mode = .sending ∧ n < 15 then
      { s with port := { s.port with inFlight := some (n + 1)
                                     dat := bitAt s.queue.nextWord (14 - n) } }
    else s
  | none => s

/-- The end of the head record's last word: the record is removed, RO_FRM falls, and a pending route
change is taken (R153). -/
def endHead (s : State) : State :=
  settleRoute { s with
    queue := s.queue.consume
    port := s.port.endRecord (decide (s.queue.consume.store = [])) }

/-- The end of a word inside the record: the next word begins, or the port pauses (R153, R154). -/
def nextInRecord (rdy : Bool) (s : State) : State :=
  { s with
    queue := s.queue.consume
    port := if rdy then s.port.beginWord s.queue.consume.nextWord else s.port.pause }

/-- Whether a word's last bit is on the lines (R149, R153). -/
def State.atBoundary (s : State) : Bool :=
  decide (s.port.mode = .sending) && s.queue.begun && decide (s.port.inFlight = some 15)

/-- A word boundary (R153). It arises only while bit 0 of a word is on the lines (log 2). -/
def portBoundary (rdy : Bool) (s : State) : State :=
  if s.atBoundary then
    if s.queue.lastWord then endHead s else nextInRecord rdy s
  else s

/-- The end of a pause: the stall timer stops and the next word begins; before a header, the record
begins (R154). It arises only in PAUSED (log 2). -/
def endPause (s : State) : State := if s.port.mode = .paused then beginRecord s else s

/-- What the expiry of the stall timer does (R155). -/
def portStalled (s : State) : State :=
  { s with
    port := { s.port with stall := .stopped, stallExpired := true }
    ev := s.ev.latch .portStall }

/-- The expiry of the stall timer as a command: it takes place in the period in which the timer reaches
its interval, and not otherwise: not after the edge that ended the pause, nor after a write that
restarted the timer (R155, R156, log 3), nor with the timer stopped (log 2). -/
def expireStall (s : State) : State := if s.stallExpires then portStalled s else s

end Sys2Proof.Machine
end

