-- ==== Sys2Proof/Machine/Control.lean ====
section
/-! DEFINITION. The commands of Table 11-2 (R178), the two resets, and the idle tick. Each command is a
function to its result and the state it leaves. -/

namespace Sys2Proof.Machine

/-- A command that is refused changes nothing else (R178). -/
def refuseIf (refused : Bool) (result : CmdResult) (effect : State → State) (s : State) :
    CmdResult × State :=
  if refused then (result, s) else (.accepted, effect s)

/-- CMD_RESULT takes the code written and the result, after the command's effects (R178). -/
def answered (code : BitVec 8) (r : CmdResult × State) : State :=
  { r.2 with host := { r.2.host with cmdCode := code, cmdResult := r.1 } }

/-! ### START, STOP, RESYNC -/

/-- The format cross-checks of Table 1-3 (R13). -/
def Format.startChecks (f : Format) : Bool :=
  decide (f.tolSearch < f.comparedBits) && decide (f.tolCheck < f.comparedBits)
    && decide (f.tolLock < f.comparedBits)
    && (decide (f.depth ≤ 1)
      || (decide (f.sfidPos ≤ f.wpf) && decide (f.sfidLsb + f.sfidWidth ≤ f.wlen)
        && decide (f.depth ≤ f.sfidModulus) && decide (f.sfidBase < f.sfidModulus)))

/-- Entering RUN (R14, R39, R54). -/
def enterRun (s : State) : State :=
  { s with
    run := .run
    fs := { s.fs with sync := .search, goodCount := 0, missCount := 0, history := 0, fill := 0 }
    sf := SubframeSync.enterRun s.fmt }

/-- START (R13, R14). -/
def startCmd (s : State) : CmdResult × State :=
  if s.run = .run then (.refusedState, s)
  else if s.fmt.startChecks then (.accepted, enterRun s)
  else (.refusedFormat, s)

/-- The synchronizer goes to OFF: no event, history emptied, counts 0, marks clear (R39). -/
def FrameSync.toOff (fs : FrameSync) : FrameSync :=
  { fs with
    sync := .off
    goodCount := 0
    missCount := 0
    history := 0
    fill := 0
    decodedMark := false
    coastMark := false }

/-- The banks at leaving RUN: a pending swap is taken (R76). -/
def takePendingSwap (s : State) : State := if s.map.isPending then takeSwap s else s

/-- Leaving RUN (R15, R39, R55, R76, R111, R128). -/
def leaveRun (s : State) : State :=
  takePendingSwap (interruptFrame { s with run := .idle, fs := s.fs.toOff, sf := {} })

/-- STOP (R15). -/
def stopCmd (s : State) : CmdResult × State :=
  refuseIf (decide (s.run = .idle)) .refusedState leaveRun s

/-- RESYNC (R37). -/
def resyncCmd (s : State) : CmdResult × State :=
  refuseIf (decide (s.run = .idle)) .refusedState (abandonTiming .resync) s

/-! ### SWAP, CANCEL_SWAP -/

/-- The standby bank with a swap state. -/
def setSwap (w : SwapState) (s : State) : State := { s with map := { s.map with swap := w } }

/-- SWAP (R70). -/
def swapCmd (s : State) : CmdResult × State :=
  refuseIf (decide (s.map.swap ≠ .editable)) .refusedBusy (setSwap .validating) s

/-- CANCEL_SWAP (R78). -/
def cancelSwapCmd (s : State) : CmdResult × State :=
  refuseIf (decide (s.map.swap = .editable)) .refusedState (setSwap .editable) s

/-! ### QFLUSH, SKIP_RECORD, CLEAR_CHANNELS, CLEAR_COUNTERS -/

/-- QFLUSH is never refused (R143). -/
def qflushCmd (s : State) : CmdResult × State := (.accepted, flushQueue s)

/-- SKIP_RECORD (R141). -/
def skipCmd (s : State) : CmdResult × State :=
  refuseIf s.queue.refusesSkip .refusedState skipHead s

/-- CLEAR_CHANNELS is never refused (R119). -/
def clearChannelsCmd (s : State) : CmdResult × State :=
  (.accepted, { s with chan := s.chan.clearAll })

/-- Every global counter at 0 (R179). -/
def clearCounters (s : State) : State :=
  { s with
    fs := { s.fs with slips := 0, syncMisses := 0 }
    dec := { parityErrors := 0, joinFaults := 0, subcomSkips := 0, nulls := 0 }
    cap := { s.cap with abandoned := 0 }
    queue := { s.queue with dropped := 0 }
    host := { s.host with errCount := 0 } }

/-- CLEAR_COUNTERS (R179). -/
def clearCountersCmd (s : State) : CmdResult × State := (.accepted, clearCounters s)

/-! ### Resets -/

/-- The values after RESET# is released (R180); the model's queue and order counter go on. -/
def powerOn (s : State) : State := { State.reset with order := s.order, pending := s.pending }

/-- The values after SOFT_RESET: those of RESET#, but for the state of Table 11-3. What the endings of
work in progress count and report is cleared by the same soft reset (R181, log 20). Under PUSH_PULL the
pin then stands at the inactive level, where R166 also says "released" (`State.intPin`, log 23). -/
def softReset (s : State) : State :=
  { powerOn s with
    resetAsserted := s.resetAsserted
    fmt := s.fmt
    map := { bankA := s.map.bankA, bankB := s.map.bankB, active := s.map.active }
    prof := { profiles := s.prof.profiles }
    chan := { entries := s.chan.clearAll.entries }
    port := { portDiv := s.port.portDiv }
    ev := { polarity := s.ev.polarity, drive := s.ev.drive } }

/-- SOFT_RESET (R181). -/
def softResetCmd (s : State) : CmdResult × State := (.accepted, softReset s)

/-! ### The command register -/

/-- The effect of the command that a code names (Table 12-2); a code that names none is refused
(R178). -/
def commandOf (code : BitVec 8) (s : State) : CmdResult × State :=
  match code.toNat with
  | 0x01 => startCmd s
  | 0x02 => stopCmd s
  | 0x03 => resyncCmd s
  | 0x04 => swapCmd s
  | 0x05 => cancelSwapCmd s
  | 0x06 => qflushCmd s
  | 0x07 => skipCmd s
  | 0x08 => clearChannelsCmd s
  | 0x09 => clearCountersCmd s
  | 0x0A => softResetCmd s
  | _ => (.refusedCode, s)

/-- A write to CMD; bits 7-0 alone are used (R178, R182). -/
def writeCmd (w : Word) (s : State) : State :=
  answered (w.setWidth 8) (commandOf (w.setWidth 8) s)

/-! ### The idle tick (log 1) -/

/-- One REFCLK period at the Clock Monitor: the timer expires at CLKLOSS_US microseconds, else it counts
(R8, R9). The end of the period drops the mark of an edge that overtook an expiry (log 24). -/
def tickClock (s : State) : State :=
  if s.clockExpires then clockLost s
  else { s with clock := { s.clock with timer := s.clock.timer.tick, overtaken := false } }

/-- One REFCLK period at the port: the stall timer expires at PORT_STALL_MS milliseconds, else it counts
(R155). -/
def tickStall (s : State) : State :=
  if s.stallExpires then portStalled s
  else { s with port := { s.port with stall := s.port.stall.tick } }

/-- One REFCLK period with no command waiting (log 1). -/
def idleTick (s : State) : State := if s.resetAsserted then s else tickStall (tickClock s)

end Sys2Proof.Machine
end

