-- ==== Sys2Proof/Machine/Window.lean ====
section
/-! DEFINITION. The Host Interface (Chapter 11): the Table Access Port, the register window's writes
and what its registers read. -/

namespace Sys2Proof.Machine

/-! ### Table Access Port (R174 to R176) -/

/-- TINDEX takes a value; the snapshot latch is emptied if that leaves the latched entry (R114,
R174). -/
def setIndex (k : Nat) (s : State) : State :=
  { s with host := { s.host with tindex := k }, chan := s.chan.atIndex k }

/-- A TSPACE write: the space, or RANGE; the latch is emptied in either case (R174). -/
def writeTspace (w : Word) (s : State) : State :=
  let t := { s with chan := s.chan.emptyLatch }
  match Space.ofCode (bitField w 0 4) with
  | some sp => { t with host := { t.host with tspace := sp } }
  | none => hostError .range t

/-- A TINDEX write (R174). -/
def writeTindex (w : Word) (s : State) : State := setIndex (bitField w 0 12) s

/-- Whether TINDEX is within the selected space (R175, R176). -/
def State.indexInSpace (s : State) : Bool := decide (s.host.tindex < s.host.tspace.words)

/-- The word at an offset of a space (R66, R84, R113, R114, R118). -/
def State.tableWord (s : State) (sp : Space) (k : Nat) : Word :=
  match sp with
  | .mapA => s.map.bankA.readSpace .map k
  | .mapB => s.map.bankB.readSpace .map k
  | .listsA => s.map.bankA.readSpace .lists k
  | .listsB => s.map.bankB.readSpace .lists k
  | .poolA => s.map.bankA.readSpace .pool k
  | .poolB => s.map.bankB.readSpace .pool k
  | .profiles => (s.prof.profile (k / 4)).word (k % 4)
  | .channels => s.chan.readWord k
  | .summary => s.chan.summaryWord k

/-- What a read of TDATA returns (R175). -/
def State.tdata (s : State) : Word :=
  if s.indexInSpace then s.tableWord s.host.tspace s.host.tindex else 0

/-- The snapshot latch after a read at an offset of a space (R113). -/
def latchFor (sp : Space) (k : Nat) (t : ChannelTable) : ChannelTable :=
  match sp with
  | .channels => t.latchAtRead k
  | .mapA | .mapB | .listsA | .listsB | .poolA | .poolB | .profiles | .summary => t

/-- A read of TDATA (R175). -/
def readTdata (s : State) : State :=
  driveBus s.tdata
    (if s.indexInSpace then
      setIndex (s.host.tindex + 1) { s with chan := latchFor s.host.tspace s.host.tindex s.chan }
     else hostError .tableAddress s)

/-- A host write to the CHANNELS space: word 0 is accepted, words 1 to 7 are READ_ONLY (R116,
R117). -/
def writeChannel (k : Nat) (w : Word) (s : State) : State :=
  if k % 8 = 0 then
    { s with chan := s.chan.setEntry (k / 8) ((s.chan.entry (k / 8)).writeWord0 w) }
  else hostError .readOnly s

/-- A write handed to the owner of a space (R176). -/
def writeTable (sp : Space) (k : Nat) (w : Word) (s : State) : State :=
  match sp with
  | .mapA => writeBank .a .map k w s
  | .mapB => writeBank .b .map k w s
  | .listsA => writeBank .a .lists k w s
  | .listsB => writeBank .b .lists k w s
  | .poolA => writeBank .a .pool k w s
  | .poolB => writeBank .b .pool k w s
  | .profiles => writeProfile k w s
  | .channels => writeChannel k w s
  | .summary => hostError .readOnly s

/-- A write to TDATA: accepted or refused by the owner, TINDEX then steps; beyond the space it is
refused and does not step (R176). -/
def writeTdata (w : Word) (s : State) : State :=
  if s.indexInSpace then
    setIndex (s.host.tindex + 1) (writeTable s.host.tspace s.host.tindex w s)
  else hostError .tableAddress s

/-! ### Register writes -/

/-- A write to a frame format register: STATE in RUN, RANGE for a field out of range, else the register
is taken whole (R4, R5). -/
def writeFormat (addr : Nat) (w : Word) (s : State) : State :=
  if s.run = .run then hostError .state s
  else match s.fmt.write addr w with
    | some f => { s with fmt := f }
    | none => hostError .range s

/-- The Clock Monitor at an accepted write of CLKLOSS_US (R11). -/
def ClockMonitor.rewrite (c : ClockMonitor) (clklossUs : Nat) : ClockMonitor :=
  { c with timer := if clklossUs ≠ 0 ∧ c.present then .running 0 else .stopped }

/-- A write to FMT_CLKLOSS (R4, R11). -/
def writeClkloss (w : Word) (s : State) : State :=
  if s.run = .run then hostError .state s
  else
    { s with
      fmt := { s.fmt with clklossUs := w.toNat }
      clock := s.clock.rewrite w.toNat }

/-- A write to LATCHED_STATUS: each bit written as 1 is cleared; a clear of HOST_ERROR sets ERR_CODE to
NONE (R162, R177). -/
def writeLatched (w : Word) (s : State) : State :=
  { s with
    ev := { s.ev with latched := s.ev.latched &&& ~~~(w.setWidth 15) }
    host := { s.host with errCode := if bitAt w 14 then none else s.host.errCode } }

/-- A write to MARK_HITS: each flag written as 1 is cleared (R171). -/
def writeMarkHits (w : Word) (s : State) : State :=
  { s with ev := { s.ev with hits := s.ev.hits &&& ~~~(w.setWidth 4) } }

/-- A write to CAPTURE (R122). -/
def writeCapture (w : Word) (s : State) : State := { s with cap := s.cap.write (bitField w 0 8) }

/-- A write to PORT_CONFIG (R156). -/
def writePortConfig (w : Word) (s : State) : State :=
  { s with port := s.port.configure (bitField w 0 8) (bitField w 8 8) }

/-- A write to QUEUE_THRESHOLD (R138). -/
def writeThreshold (w : Word) (s : State) : State :=
  if w.toNat ≤ 4095 then { s with queue := { s.queue with threshold := w.toNat } }
  else hostError .range s

/-- A write to INT_CONTROL; LINE_STATE's position is ignored (R166, R182). -/
def writeIntControl (w : Word) (s : State) : State :=
  { s with ev := { s.ev with
    masterEnable := bitAt w 0
    polarity := if bitAt w 1 then .activeHigh else .activeLow
    drive := if bitAt w 2 then .pushPull else .openDrain } }

/-- A write to MARK_POS of marker n (R169). -/
def writeMarkPos (n : Nat) (w : Word) (s : State) : State :=
  match s.ev.writeMarkPos n w with
  | some ev => { s with ev := ev }
  | none => hostError .range s

/-- A host write at an address of the register window, handed to the block that owns the register; a
register with no writable field, and an address with no register, refuse with READ_ONLY (R173,
Table 12-1). -/
def hostWrite (addr : BitVec 6) (w : Word) (s : State) : State :=
  match addr.toNat with
  | 0x01 => writeCmd w s
  | 0x05 => writeTspace w s
  | 0x06 => writeTindex w s
  | 0x07 => writeTdata w s
  | 0x08 => writeFormat 0x08 w s
  | 0x09 => writeFormat 0x09 w s
  | 0x0A => writeFormat 0x0A w s
  | 0x0B => writeFormat 0x0B w s
  | 0x0C => writeFormat 0x0C w s
  | 0x0D => writeFormat 0x0D w s
  | 0x0E => writeFormat 0x0E w s
  | 0x0F => writeFormat 0x0F w s
  | 0x10 => writeFormat 0x10 w s
  | 0x11 => writeFormat 0x11 w s
  | 0x12 => writeFormat 0x12 w s
  | 0x13 => writeFormat 0x13 w s
  | 0x14 => writeClkloss w s
  | 0x22 => writeCapture w s
  | 0x2B => writeThreshold w s
  | 0x2C => writeRoute w s
  | 0x2F => writePortConfig w s
  | 0x30 => writeLatched w s
  | 0x31 => { s with ev := { s.ev with latchedEnable := w.setWidth 15 } }
  | 0x33 => { s with ev := { s.ev with levelEnable := w.setWidth 6 } }
  | 0x34 => writeIntControl w s
  | 0x35 => { s with ev := { s.ev with recordMask := w.setWidth 8 } }
  | 0x36 => writeMarkPos 0 w s
  | 0x37 => writeMarkPos 1 w s
  | 0x38 => writeMarkPos 2 w s
  | 0x39 => writeMarkPos 3 w s
  | 0x3A => { s with ev := s.ev.writeMarkCtl 0 w }
  | 0x3B => { s with ev := s.ev.writeMarkCtl 1 w }
  | 0x3C => { s with ev := s.ev.writeMarkCtl 2 w }
  | 0x3D => { s with ev := s.ev.writeMarkCtl 3 w }
  | 0x3E => writeMarkHits w s
  | _ => hostError .readOnly s

/-! ### What the registers read (Table 12-1) -/

/-- The contents of the register at an address, with RO_RDY at the pin high when `rdy` (R149). -/
def State.registerWord (rdy : Bool) (addr : BitVec 6) (s : State) : Word :=
  match addr.toNat with
  | 0x00 => placed s.run.code 0 ||| placed s.fs.sync.code 1 ||| placed s.sf.state.code 4
  | 0x02 => s.host.cmdCode.setWidth 16 ||| placed s.host.cmdResult.code 8
  | 0x03 => placed ((s.host.errCode.map HostError.code).getD 0) 0
  | 0x04 => s.host.errCount
  | 0x05 => placed s.host.tspace.code 0
  | 0x06 => placed s.host.tindex 0
  | 0x07 => s.tdata
  | 0x08 => s.fmt.read 0x08
  | 0x09 => s.fmt.read 0x09
  | 0x0A => s.fmt.read 0x0A
  | 0x0B => s.fmt.read 0x0B
  | 0x0C => s.fmt.read 0x0C
  | 0x0D => s.fmt.read 0x0D
  | 0x0E => s.fmt.read 0x0E
  | 0x0F => s.fmt.read 0x0F
  | 0x10 => s.fmt.read 0x10
  | 0x11 => s.fmt.read 0x11
  | 0x12 => s.fmt.read 0x12
  | 0x13 => s.fmt.read 0x13
  | 0x14 => s.fmt.read 0x14
  | 0x15 => placed s.fs.goodCount 0 ||| placed s.fs.missCount 4
  | 0x16 => s.fs.fsn
  | 0x17 => s.fs.slips
  | 0x18 => s.fs.syncMisses
  | 0x19 => placed s.sf.goodCount 0 ||| placed s.sf.missCount 4
  | 0x1A => placed (s.sf.held.getD 0) 0 ||| placedBit s.sf.held.isSome 15
  | 0x1B => placed (s.predictedSfid.getD 0) 0
  | 0x1C => placed s.map.active.code 0 ||| placed s.map.swap.code 1
  | 0x1D => placed s.map.fault.location 0 ||| placed s.map.fault.reason.code 10
              ||| placed s.map.fault.bank.code 15
  | 0x1E => s.dec.parityErrors
  | 0x1F => s.dec.joinFaults
  | 0x20 => s.dec.subcomSkips
  | 0x21 => s.dec.nulls
  | 0x22 => placed s.cap.every 0
  | 0x23 => placed ((s.cap.current.map fun c => c.buffer.length).getD 0) 0
              ||| placedBit s.cap.current.isSome 15
  | 0x24 => placed s.cap.countdown 0
  | 0x25 => s.cap.abandoned
  | 0x26 => placed s.queue.count 0
  | 0x27 => placed s.queue.records 0
  | 0x28 => placed s.queue.headRemain 0
  | 0x29 => s.queue.gapPending
  | 0x2A => s.queue.dropped
  | 0x2B => placed s.queue.threshold 0
  | 0x2C => placed s.queue.requested.code 0 ||| placed s.queue.active.code 1
              ||| placedBit s.queue.routePending 2
  | 0x2D => s.queue.qdata
  | 0x2E => placed s.port.mode.code 0 ||| placedBit rdy 2
  | 0x2F => placed s.port.portDiv 0 ||| placed s.port.stallMs 8
  | 0x30 => s.ev.latched.setWidth 16
  | 0x31 => s.ev.latchedEnable.setWidth 16
  | 0x32 => s.levelStatus.setWidth 16
  | 0x33 => s.ev.levelEnable.setWidth 16
  | 0x34 => placedBit s.ev.masterEnable 0 ||| placedBit (s.ev.polarity = .activeHigh) 1
              ||| placedBit (s.ev.drive = .pushPull) 2 ||| placedBit s.lineActive 15
  | 0x35 => s.ev.recordMask.setWidth 16
  | 0x36 => placed s.ev.marker0.position 0
  | 0x37 => placed s.ev.marker1.position 0
  | 0x38 => placed s.ev.marker2.position 0
  | 0x39 => placed s.ev.marker3.position 0
  | 0x3A => s.ev.marker0.ctlWord
  | 0x3B => s.ev.marker1.ctlWord
  | 0x3C => s.ev.marker2.ctlWord
  | 0x3D => s.ev.marker3.ctlWord
  | 0x3E => s.ev.hits.setWidth 16
  | _ => 0

/-- What a host read of an address drives on the data lines: the register's contents, and nothing while
RESET# is asserted (R172). Only the reads of QDATA and TDATA have side effects, and those are commands of
their own (R173, log 10). -/
def readRegister (rdy : Bool) (addr : BitVec 6) (s : State) : Option Word :=
  if s.resetAsserted then none else some (s.registerWord rdy addr)

end Sys2Proof.Machine
end

