-- ==== Sys2Proof/Machine/Accesses.lean ====
section
/-! DEFINITION. The meanings of the host's reads of QDATA and TDATA and of its register writes
(Chapter 11). -/

namespace Sys2Proof.Machine

/-- A read that the Host Interface takes; while RESET# is asserted a read drives nothing (R172). -/
def hostRead (f : State → State) (s : State) : Host.Outcome State Fault Refusal :=
  .next (if s.resetAsserted then { s with host := { s.host with dataBus := none } } else f s)

/-- FORMAT_REGISTER_WRITE: a write to a frame format register (R4, R5). At any other address (which
`wellFormed` refuses here) it is the write to that address (log 18). -/
def execFormatRegisterWrite (addr : BitVec 6) (value : Word) (s : State) :
    Host.Outcome State Fault Refusal :=
  unlessReset (hostWrite addr value) s

/-- CLKLOSS_US_WRITE (R11). -/
def execClklossUsWrite (value : Word) (s : State) : Host.Outcome State Fault Refusal :=
  unlessReset (writeClkloss value) s

/-- QDATA_READ (R139, R140). -/
def execQdataRead (s : State) : Host.Outcome State Fault Refusal := hostRead readQdata s

/-- TSPACE_WRITE (R174). -/
def execTspaceWrite (value : Word) (s : State) : Host.Outcome State Fault Refusal :=
  unlessReset (writeTspace value) s

/-- TINDEX_WRITE (R174). -/
def execTindexWrite (value : Word) (s : State) : Host.Outcome State Fault Refusal :=
  unlessReset (writeTindex value) s

/-- TDATA_READ (R175). -/
def execTdataRead (s : State) : Host.Outcome State Fault Refusal := hostRead readTdata s

/-- TDATA_WRITE (R176). -/
def execTdataWrite (value : Word) (s : State) : Host.Outcome State Fault Refusal :=
  unlessReset (writeTdata value) s

/-- ROUTE_WRITE (R144). -/
def execRouteWrite (value : Word) (s : State) : Host.Outcome State Fault Refusal :=
  unlessReset (writeRoute value) s

/-- CAPTURE_WRITE (R122). -/
def execCaptureWrite (value : Word) (s : State) : Host.Outcome State Fault Refusal :=
  unlessReset (writeCapture value) s

/-- PORT_CONFIG_WRITE (R156). -/
def execPortConfigWrite (value : Word) (s : State) : Host.Outcome State Fault Refusal :=
  unlessReset (writePortConfig value) s

/-- LATCHED_STATUS_WRITE (R162). -/
def execLatchedStatusWrite (value : Word) (s : State) : Host.Outcome State Fault Refusal :=
  unlessReset (writeLatched value) s

/-- MARK_HITS_WRITE (R171). -/
def execMarkHitsWrite (value : Word) (s : State) : Host.Outcome State Fault Refusal :=
  unlessReset (writeMarkHits value) s

/-- REGISTER_WRITE: a write at any other address of the window (R173). At an address that has a row of
its own (which `wellFormed` refuses here) it is that write (log 18). -/
def execRegisterWrite (addr : BitVec 6) (value : Word) (s : State) :
    Host.Outcome State Fault Refusal :=
  unlessReset (hostWrite addr value) s

end Sys2Proof.Machine
end

