-- ==== Sys2Proof/Machine/Commands.lean ====
section
/-! DEFINITION. The meanings of the commands written to CMD (R178). -/

namespace Sys2Proof.Machine

/-- START (R13). -/
def execStart (s : State) : Host.Outcome State Fault Refusal :=
  unlessReset (fun t => answered 0x01 (startCmd t)) s

/-- STOP (R15). -/
def execStop (s : State) : Host.Outcome State Fault Refusal :=
  unlessReset (fun t => answered 0x02 (stopCmd t)) s

/-- RESYNC (R37). -/
def execResync (s : State) : Host.Outcome State Fault Refusal :=
  unlessReset (fun t => answered 0x03 (resyncCmd t)) s

/-- SWAP (R70). -/
def execSwap (s : State) : Host.Outcome State Fault Refusal :=
  unlessReset (fun t => answered 0x04 (swapCmd t)) s

/-- CANCEL_SWAP (R78). -/
def execCancelSwap (s : State) : Host.Outcome State Fault Refusal :=
  unlessReset (fun t => answered 0x05 (cancelSwapCmd t)) s

/-- QFLUSH (R143). -/
def execQflush (s : State) : Host.Outcome State Fault Refusal :=
  unlessReset (fun t => answered 0x06 (qflushCmd t)) s

/-- SKIP_RECORD (R141). -/
def execSkipRecord (s : State) : Host.Outcome State Fault Refusal :=
  unlessReset (fun t => answered 0x07 (skipCmd t)) s

/-- CLEAR_CHANNELS (R119). -/
def execClearChannels (s : State) : Host.Outcome State Fault Refusal :=
  unlessReset (fun t => answered 0x08 (clearChannelsCmd t)) s

/-- CLEAR_COUNTERS (R179). -/
def execClearCounters (s : State) : Host.Outcome State Fault Refusal :=
  unlessReset (fun t => answered 0x09 (clearCountersCmd t)) s

/-- SOFT_RESET (R181). -/
def execSoftReset (s : State) : Host.Outcome State Fault Refusal :=
  unlessReset (fun t => answered 0x0A (softResetCmd t)) s

/-- UNNAMED_COMMAND_CODE: a write to CMD. A code that names no command is refused with REFUSED_CODE; a
word whose code names one (which `wellFormed` refuses here) is that command (R178, log 18). -/
def execUnnamedCommandCode (value : Word) (s : State) : Host.Outcome State Fault Refusal :=
  unlessReset (writeCmd value) s

end Sys2Proof.Machine
end

