-- ==== Sys2Proof/Machine/Happenings.lean ====
section
/-! DEFINITION. The meanings of the happenings that no host access brings: RESET#, PCM_CLK, the timers,
the end of a validation, and the falling edges of RO_CLK. -/

namespace Sys2Proof.Machine

/-- RESET_ASSERT: the mark is set; the pins follow it (`State.intPin`, `State.roFrm`, `State.roDat`,
`State.roClkHalfPeriod`), and until the release nothing else happens (R180, log 5). -/
def execResetAssert (s : State) : Host.Outcome State Fault Refusal :=
  .next { s with resetAsserted := true }

/-- RESET_RELEASE: every block takes its power-on values (R180). -/
def execResetRelease (s : State) : Host.Outcome State Fault Refusal := .next (powerOn s)

/-- BIT_ARRIVAL: an edge in the selected direction is one bit arrival; an edge in the other direction is
not acted on (R7, R8). -/
def execBitArrival (edge : ClockEdge) (level : Bool) (s : State) :
    Host.Outcome State Fault Refusal :=
  unlessReset (fun t => if edge = t.fmt.clockEdge then acceptBit level t else t) s

/-- CLOCK_LOSS (R9, R10, R57). -/
def execClockLoss (s : State) : Host.Outcome State Fault Refusal := unlessReset loseClock s

/-- VALIDATION_END (R71 to R74). -/
def execValidationEnd (s : State) : Host.Outcome State Fault Refusal := unlessReset endValidation s

/-- PORT_STALL_EXPIRY (R155). -/
def execPortStallExpiry (s : State) : Host.Outcome State Fault Refusal := unlessReset expireStall s

/-- PORT_RECORD_BEGIN (R152). -/
def execPortRecordBegin (rdy : Bool) (s : State) : Host.Outcome State Fault Refusal :=
  unlessReset (portBegin rdy) s

/-- PORT_WORD_BOUNDARY (R153). -/
def execPortWordBoundary (rdy : Bool) (s : State) : Host.Outcome State Fault Refusal :=
  unlessReset (portBoundary rdy) s

/-- PORT_PAUSE_END (R154). -/
def execPortPauseEnd (s : State) : Host.Outcome State Fault Refusal := unlessReset endPause s

/-- PORT_BIT_DRIVE (R153). -/
def execPortBitDrive (s : State) : Host.Outcome State Fault Refusal := unlessReset portBit s

end Sys2Proof.Machine
end

