-- ==== Sys2Proof/Machine/Dispatch.lean ====
section
/-! DEFINITION. The meaning of each command: one arm for each constructor of Instr. -/

namespace Sys2Proof.Machine

/-- What a command does to everything but the queue of waiting commands. -/
def exec (i : Instr) (s : State) : Host.Outcome State Fault Refusal :=
  match i with
  | .resetAssert => Sys2Proof.Machine.execResetAssert s
  | .resetRelease => Sys2Proof.Machine.execResetRelease s
  | .bitArrival edge level => Sys2Proof.Machine.execBitArrival edge level s
  | .clockLoss => Sys2Proof.Machine.execClockLoss s
  | .validationEnd => Sys2Proof.Machine.execValidationEnd s
  | .portStallExpiry => Sys2Proof.Machine.execPortStallExpiry s
  | .portRecordBegin rdy => Sys2Proof.Machine.execPortRecordBegin rdy s
  | .portWordBoundary rdy => Sys2Proof.Machine.execPortWordBoundary rdy s
  | .portPauseEnd => Sys2Proof.Machine.execPortPauseEnd s
  | .portBitDrive => Sys2Proof.Machine.execPortBitDrive s
  | .start => Sys2Proof.Machine.execStart s
  | .stop => Sys2Proof.Machine.execStop s
  | .resync => Sys2Proof.Machine.execResync s
  | .swap => Sys2Proof.Machine.execSwap s
  | .cancelSwap => Sys2Proof.Machine.execCancelSwap s
  | .qflush => Sys2Proof.Machine.execQflush s
  | .skipRecord => Sys2Proof.Machine.execSkipRecord s
  | .clearChannels => Sys2Proof.Machine.execClearChannels s
  | .clearCounters => Sys2Proof.Machine.execClearCounters s
  | .softReset => Sys2Proof.Machine.execSoftReset s
  | .unnamedCommandCode value => Sys2Proof.Machine.execUnnamedCommandCode value s
  | .formatRegisterWrite addr value => Sys2Proof.Machine.execFormatRegisterWrite addr value s
  | .clklossUsWrite value => Sys2Proof.Machine.execClklossUsWrite value s
  | .qdataRead => Sys2Proof.Machine.execQdataRead s
  | .tspaceWrite value => Sys2Proof.Machine.execTspaceWrite value s
  | .tindexWrite value => Sys2Proof.Machine.execTindexWrite value s
  | .tdataRead => Sys2Proof.Machine.execTdataRead s
  | .tdataWrite value => Sys2Proof.Machine.execTdataWrite value s
  | .routeWrite value => Sys2Proof.Machine.execRouteWrite value s
  | .captureWrite value => Sys2Proof.Machine.execCaptureWrite value s
  | .portConfigWrite value => Sys2Proof.Machine.execPortConfigWrite value s
  | .latchedStatusWrite value => Sys2Proof.Machine.execLatchedStatusWrite value s
  | .markHitsWrite value => Sys2Proof.Machine.execMarkHitsWrite value s
  | .registerWrite addr value => Sys2Proof.Machine.execRegisterWrite addr value s

end Sys2Proof.Machine
end

