-- ==== Sys2Proof/Safety.lean ====
section
/-! DEFINITION. What the manual promises of every state the decommutator stands in: the invariants that
the statements speak of. Each names the sentences it comes from. -/

namespace Sys2Proof.Machine

/-! ### Words the statements use -/

/-- The records of several blocks in some order that keeps each block's own order (R137, 8.10). -/
def Interleaves (groups : List (List Rec)) (records : List Rec) : Prop :=
  records.Perm groups.flatten ∧ ∀ g ∈ groups, g.Sublist records

/-- The state that the Frame Synchronizer's work on a bit starts from: CLOCK_PRESENT is set, the loss
timer restarted, an expiry that was due marked as overtaken (log 24), and the bit, after inversion, has
entered the history (R7, R8, R18). -/
def State.received (level : Bool) (s : State) : State :=
  { s with
    clock := { present := true
               timer := if s.fmt.clklossUs = 0 then .stopped else .running 0
               overtaken := s.clockExpires }
    fs := s.fs.push (level != s.fmt.inputInvert) }

/-! ### Invariants -/

/-- Every format field lies in the range Table 1-2 accepts (R5). -/
def Format.InRange (f : Format) : Prop :=
  (8 ≤ f.syncLen ∧ f.syncLen ≤ 48) ∧ (4 ≤ f.wlen ∧ f.wlen ≤ 16) ∧ (2 ≤ f.wpf ∧ f.wpf ≤ 512)
    ∧ (1 ≤ f.depth ∧ f.depth ≤ 256) ∧ (1 ≤ f.sfidPos ∧ f.sfidPos ≤ 512) ∧ f.sfidLsb ≤ 15
    ∧ (1 ≤ f.sfidWidth ∧ f.sfidWidth ≤ 8) ∧ f.sfidBase ≤ 255
    ∧ f.tolSearch ≤ 7 ∧ f.tolCheck ≤ 7 ∧ f.tolLock ≤ 7
    ∧ (1 ≤ f.checkCount ∧ f.checkCount ≤ 15) ∧ (1 ≤ f.lockMiss ∧ f.lockMiss ≤ 15)
    ∧ f.slipWin ≤ 2 ∧ (1 ≤ f.sfCheckCount ∧ f.sfCheckCount ≤ 7) ∧ (1 ≤ f.sfMiss ∧ f.sfMiss ≤ 15)
    ∧ f.clklossUs ≤ 65535

/-- The three memories of a bank are canonical. -/
def MapBank.Canonical (k : MapBank) : Prop :=
  Memory.Wf mapPowerOn Config.mapWords k.map ∧ Memory.Wf listPowerOn Config.listWords k.lists
    ∧ Memory.Wf poolPowerOn Config.poolWords k.pool

/-- Every table memory is in its canonical form. -/
def State.MemoriesCanonical (s : State) : Prop :=
  s.map.bankA.Canonical ∧ s.map.bankB.Canonical
    ∧ Memory.Wf ({} : Profile) 16 s.prof.profiles
    ∧ Memory.Wf ({} : ChannelEntry) Config.channels s.chan.entries

/-- A bank that satisfies the validation conditions of Table 4-4 (R69, R72). -/
def MapBank.Valid (k : MapBank) : Prop := k.validate = none

/-- The active bank satisfies the validation conditions; a PENDING standby has passed its validation,
and PENDING stands only while a frame is being decoded (R69, R74 to R76, R82). -/
def State.BanksSafe (s : State) : Prop :=
  (s.map.bank s.map.active).Valid
    ∧ (s.map.swap = .pending →
        (s.map.bank s.map.standby).Valid ∧ s.run = .run ∧ s.fs.sync.inLock = true)

/-- The store never holds more than 4096 unread words, no record in it is empty, and the progress of
the head lies inside it (R132, R134). -/
def RecordQueue.Sound (q : RecordQueue) : Prop :=
  q.count ≤ Config.storeWords ∧ (∀ r ∈ q.store, r ≠ [])
    ∧ (q.store = [] → q.consumed = 0) ∧ (q.store ≠ [] → q.consumed < q.head.length)

/-- The record queue and the output port agree (Table 9-1, R145, R149, R151): the port is OFF exactly on
the HOST route; IDLE means an empty store, SENDING and PAUSED a store that holds records; a record is
begun only by a port that is SENDING or PAUSED; RO_FRM is high exactly while a record is begun; RO_DAT
is low whenever RO_FRM is; a word is in flight only in SENDING, inside a begun record; a route change
pends only over a touched head. -/
def State.OutputSafe (s : State) : Prop :=
  s.queue.Sound
    ∧ (s.port.mode = .off ↔ s.queue.active = .host)
    ∧ (s.port.mode = .idle → s.queue.store = [])
    ∧ (s.port.mode = .sending ∨ s.port.mode = .paused → s.queue.store ≠ [])
    ∧ (s.queue.begun = true → s.port.mode = .sending ∨ s.port.mode = .paused)
    ∧ (s.queue.active = .port → s.queue.begun = false → s.queue.consumed = 0)
    ∧ s.port.frm = s.queue.begun
    ∧ (s.port.frm = false → s.port.dat = false)
    ∧ (∀ n, s.port.inFlight = some n → n ≤ 15 ∧ s.port.mode = .sending ∧ s.queue.begun = true)
    ∧ (s.port.clk = none ↔ s.port.mode = .off)
    ∧ (s.queue.requested ≠ s.queue.active → s.queue.store ≠ [] ∧ s.queue.untouched = false)

/-- A channel's OVERRUN flag is set only while its AVAILABLE flag is set (R108). -/
def State.OverrunSafe (s : State) : Prop :=
  ∀ p ∈ s.chan.entries, p.2.overrun = true → p.2.available = true

/-- The Frame Synchronizer's counts and marks (R17, R31): OFF exactly in IDLE; the good count is 0
outside CHECK and below CHECK_COUNT in it; the miss count is 0 outside COAST and from 1 to LOCK_MISS - 1
in it; a frame is decoded exactly in LOCK and COAST, and the coast mark stands exactly in COAST. -/
def State.SyncSafe (s : State) : Prop :=
  s.fmt.InRange
    ∧ (s.run = .idle ↔ s.fs.sync = .off)
    ∧ (if s.fs.sync = .check then s.fs.goodCount < s.fmt.checkCount else s.fs.goodCount = 0)
    ∧ (if s.fs.sync = .coast then 1 ≤ s.fs.missCount ∧ s.fs.missCount < s.fmt.lockMiss
        else s.fs.missCount = 0)
    ∧ s.fs.fill ≤ Config.historyBits
    ∧ s.fs.decodedMark = s.fs.sync.inLock
    ∧ s.fs.coastMark = decide (s.fs.sync = .coast)

/-- The Subframe Synchronizer's state (Table 3-1, R2, R41, R54): SF_OFF exactly in IDLE and at DEPTH 1;
a phase is held in SF_CHECK and SF_LOCK, below DEPTH, and only while frames are decoded; the counts lie
in their ranges. -/
def State.PhaseSafe (s : State) : Prop :=
  (s.sf.state = .off ↔ s.run = .idle ∨ s.fmt.depth = 1)
    ∧ (s.sf.state = .search → s.sf.held = none)
    ∧ (s.sf.state = .off → s.sf.held = if s.run = .run then some 0 else none)
    ∧ (s.sf.state = .check ∨ s.sf.state = .lock →
        s.fs.sync.inLock = true ∧ ∃ p, s.sf.held = some p ∧ p < s.fmt.depth)
    ∧ (if s.sf.state = .check then s.sf.goodCount < s.fmt.sfCheckCount else s.sf.goodCount = 0)
    ∧ (if s.sf.state = .lock then s.sf.missCount < s.fmt.sfMiss else s.sf.missCount = 0)

/-- A held upper part and a capture in progress belong to a decoded frame whose word WPF has not
completed (6.3, R121). -/
def State.FrameWorkSafe (s : State) : Prop :=
  (s.cap.current ≠ none ∨ ∃ p ∈ s.chan.entries, p.2.held ≠ none) →
    s.fs.sync.inLock = true ∧ s.fs.offset + 1 < s.fmt.frameLength

/-- Every record's header gives its length, and no header is 0000h (R133). -/
def State.HeadersTrue (s : State) : Prop :=
  ∀ r ∈ s.queue.store, headerLength (r.headD 0) = r.length ∧ r.headD 0 ≠ 0

/-- A captured frame's buffer holds at most one word for each position completed so far (R125). -/
def State.BufferSafe (s : State) : Prop :=
  ∀ c, s.cap.current = some c →
    c.buffer.length * s.fmt.wlen ≤ s.fs.offset + 1 - s.fmt.syncLen

end Sys2Proof.Machine
end

