-- ==== Sys2Proof/WellFormed.lean ====
section
/-! DEFINITION. Which commands are spelt by the row they belong to: three rows take an address or a
code that another row may claim. A command that fails the check still has a meaning (the access it
spells); the check says only that the row is the right one for it. -/

namespace Sys2Proof

/-- The addresses of the frame format registers but for FMT_CLKLOSS, which has a row of its own
(Table 12-1, 08h to 13h). -/
def formatAddress (addr : BitVec 6) : Bool :=
  decide (0x08 ≤ addr.toNat) && decide (addr.toNat ≤ 0x13)

/-- The addresses whose writes have rows of their own (CMD, the Table Access Port, the frame format
registers, CAPTURE, ROUTE, PORT_CONFIG, LATCHED_STATUS, MARK_HITS). -/
def addressHasOwnRow (addr : BitVec 6) : Bool :=
  [0x01, 0x05, 0x06, 0x07, 0x14, 0x22, 0x2C, 0x2F, 0x30, 0x3E].contains addr.toNat
    || formatAddress addr

/-- Codes 01h to 0Ah name commands; every other code names none (Table 12-2). -/
def codeNamesCommand (code : BitVec 8) : Bool :=
  decide (1 ≤ code.toNat) && decide (code.toNat ≤ 10)

/-- The check on a command. -/
def wellFormed : Instr → Bool
  | .unnamedCommandCode value => !codeNamesCommand (value.setWidth 8)
  | .formatRegisterWrite addr _ => formatAddress addr
  | .registerWrite addr _ => !addressHasOwnRow addr
  | .resetAssert | .resetRelease | .bitArrival _ _ | .clockLoss | .validationEnd
  | .portStallExpiry | .portRecordBegin _ | .portWordBoundary _ | .portPauseEnd | .portBitDrive
  | .start | .stop | .resync | .swap | .cancelSwap | .qflush | .skipRecord | .clearChannels
  | .clearCounters | .softReset | .clklossUsWrite _ | .qdataRead | .tspaceWrite _
  | .tindexWrite _ | .tdataRead | .tdataWrite _ | .routeWrite _ | .captureWrite _
  | .portConfigWrite _ | .latchedStatusWrite _ | .markHitsWrite _ => true

end Sys2Proof
end

