-- ==== Sys2Proof/Certificates/Slice0/Obligations.lean ====
section
/-! DEFINITION. The statements for the provers. "Table t-n" and "R n" are those of spec/; "log n" is
notes/assumptions/n.md. A statement that gives a whole next state by a record update says by it that
every other field is unchanged. -/

section

open Sys2Proof Sys2Proof.Machine

/-! ### The machine -/

/-- A step takes the command at the front of the queue and runs it with the queue's rest. -/
def Obligations.StepRunsFrontCommand : Prop :=
  ∀ (c : Instr) (rest : List Instr) (s : State),
    step { s with pending := c :: rest } = exec c { s with pending := rest }

/-- The MODEL's choice (log 1): with no command waiting a step is one REFCLK period of the two interval
timers. Each counts while it stays below its limit; the loss timer that reaches CLKLOSS_US x 10 periods is
the clock-loss happening, the stall timer that reaches PORT_STALL_MS x 10000 periods is the stall expiry,
whatever the other timer does; where both expire at one period the clock loss comes first. The mark of an
edge that overtook an expiry goes with its period (log 24). -/
def Obligations.IdleStepTimesTheTwoIntervals : Prop :=
  ∀ s : State, s.pending = [] →
    let later : Timer → Timer := fun t => match t with
      | .stopped => .stopped
      | .running e => .running (e + 1)
    let lossDue := ∃ e, s.clock.timer = .running e ∧ s.fmt.clklossUs * 10 ≤ e + 1
    let stallDue := ∃ e, s.port.stall = .running e ∧ s.port.stallMs * 10000 ≤ e + 1
    let lossLater : State := { s with
      clock := { s.clock with timer := later s.clock.timer, overtaken := false } }
    let stallLater := fun t : State => { t with port := { t.port with stall := later t.port.stall } }
    (s.resetAsserted = true → step s = .next s)
    ∧ (s.resetAsserted = false → ¬ lossDue → ¬ stallDue → step s = .next (stallLater lossLater))
    ∧ (s.resetAsserted = false → ¬ lossDue → stallDue → step s = exec .portStallExpiry lossLater)
    ∧ (s.resetAsserted = false → lossDue →
        ∃ t, exec .clockLoss s = .next t ∧ t.clock = { present := false, timer := .stopped }
          ∧ t.port.stall = s.port.stall
          ∧ (¬ stallDue → step s = .next (stallLater t))
          ∧ (stallDue → step s = exec .portStallExpiry t))

/-- Every command answers a next state, and none touches the queue of waiting commands. -/
def Obligations.EveryCommandCompletesKeepingTheQueue : Prop :=
  ∀ (c : Instr) (s : State), ∃ t, exec c s = .next t ∧ t.pending = s.pending

/-- RESET_ASSERT releases the interrupt pin and holds the port's lines low; while RESET# stays asserted
no command but the release changes anything, and a read of any register drives nothing (R180, R172; that
timers and port edges stand still too is log 5). -/
def Obligations.ResetHeldQuietsTheBlock : Prop :=
  ∀ s : State,
    (∃ t, exec .resetAssert s = .next t ∧ t = { s with resetAsserted := true }
      ∧ t.intPin = .released ∧ t.roFrm = false ∧ t.roDat = false ∧ t.roClkHalfPeriod = none)
    ∧ (s.resetAsserted = true → ∀ c, c ≠ .resetRelease →
        exec c s = .next
          (if c = .qdataRead ∨ c = .tdataRead
            then { s with host := { s.host with dataBus := none } } else s))
    ∧ (s.resetAsserted = true → ∀ rdy addr, readRegister rdy addr s = none)

/-- RESET_RELEASE: every block takes its power-on values (Tables 1-2, 5-1, 6-1; R8, R11, R17, R41, R59,
R83, R106, R121, R132, R149, R161 to R169, R174, R177, R178). The frame offset (log 7) and the model's
own fields are not spoken of. That bits 15-8 of channel word 4 read 0 is the model's choice (log 25). -/
def Obligations.ResetReleaseTakesPowerOnValues : Prop :=
  ∀ s : State, ∃ t, exec .resetRelease s = .next t
    ∧ t.resetAsserted = false ∧ t.run = .idle
    ∧ t.fmt = { syncLen := 24, syncPattern := 0x000000FAF320, syncMask := 0xFFFFFFFFFFFF, wlen := 8,
                wpf := 64, depth := 1, sfidPos := 1, sfidLsb := 0, sfidWidth := 8, sfidDir := .up,
                sfidBase := 0, tolSearch := 0, tolCheck := 1, tolLock := 2, checkCount := 2,
                lockMiss := 3, slipWin := 0, sfCheckCount := 2, sfMiss := 3, inputInvert := false,
                clockEdge := .rising, clklossUs := 1000 }
    ∧ t.clock.present = false ∧ t.clock.timer = .stopped
    ∧ t.fs.sync = .off ∧ t.fs.goodCount = 0 ∧ t.fs.missCount = 0 ∧ t.fs.fill = 0 ∧ t.fs.fsn = 0
    ∧ t.fs.decodedMark = false ∧ t.fs.coastMark = false ∧ t.fs.slips = 0 ∧ t.fs.syncMisses = 0
    ∧ t.sf = { state := .off, held := none, goodCount := 0, missCount := 0 }
    ∧ (∀ which k, (t.map.bank which).mapWord k = 0x0000 ∧ (t.map.bank which).listWord k = 0x0000
        ∧ (t.map.bank which).poolWord k = 0xFFFF)
    ∧ t.map.active = .a ∧ t.map.swap = .editable
    ∧ t.map.fault = { bank := .a, location := 0, reason := .noFault }
    ∧ (∀ n, (t.prof.profile n).word 0 = 0x0080 ∧ (t.prof.profile n).word 1 = 0x1000
        ∧ (t.prof.profile n).word 2 = 0x0000 ∧ (t.prof.profile n).word 3 = 0x0000)
    ∧ t.prof.staging = none
    ∧ t.dec = { parityErrors := 0, joinFaults := 0, subcomSkips := 0, nulls := 0 }
    ∧ (∀ c, (t.chan.entry c).words = [0x0001, 0, 0, 0, 0x00FF, 0, 0, 0]) ∧ t.chan.latch = none
    ∧ t.cap = { every := 0, countdown := 1, current := none, abandoned := 0 }
    ∧ t.queue = { store := [], consumed := 0, begun := false, gapPending := 0, dropped := 0
                  threshold := 2048, requested := .host, active := .host }
    ∧ t.port.mode = .off ∧ t.port.inFlight = none ∧ t.port.stall = .stopped
    ∧ t.port.stallExpired = false ∧ t.port.portDiv = 4 ∧ t.port.stallMs = 0
    ∧ t.ev.latched = 0 ∧ t.ev.latchedEnable = 0 ∧ t.ev.levelEnable = 0 ∧ t.ev.masterEnable = false
    ∧ t.ev.polarity = .activeLow ∧ t.ev.drive = .openDrain ∧ t.ev.recordMask = 0xEF ∧ t.ev.hits = 0
    ∧ (∀ n, t.ev.marker n = { position := 0, phase := 0, any := false, action := .status })
    ∧ t.levelStatus = 0b000010 ∧ t.intPin = .released
    ∧ t.host.tspace = .mapA ∧ t.host.tindex = 0 ∧ t.host.errCode = none ∧ t.host.errCount = 0
    ∧ t.host.cmdCode = 0 ∧ t.host.cmdResult = .noResult

/-! ### Bits and the minor frame (Chapters 1 and 2) -/

/-- An edge in the direction not selected changes nothing; outside RUN a selected edge reaches the Clock
Monitor alone (R7, R8), which it marks where it overtakes an expiry. The mark is the model's, log 24. -/
def Obligations.BitNotTakenReachesOnlyTheClockMonitor : Prop :=
  ∀ (s : State) (edge : ClockEdge) (level : Bool), s.resetAsserted = false →
    (edge ≠ s.fmt.clockEdge → exec (.bitArrival edge level) s = .next s)
    ∧ (edge = s.fmt.clockEdge → s.fs.sync = .off →
        exec (.bitArrival edge level) s = .next { s with
          clock := { present := true
                     timer := if s.fmt.clklossUs = 0 then .stopped else .running 0
                     overtaken := s.clockExpires } })

/-- A bit in SEARCH (R20): without SYNC_LEN bits in the history, or with a distance above TOL_SEARCH, it
only enters the history; else the sync is found, with FSN 0 and no event. A pending swap is excluded:
none pends in SEARCH (R74, R76; `State.BanksSafe`). The mark that `State.received` carries is the
model's (log 24). -/
def Obligations.SearchBitFindsTheSyncOrGoesOn : Prop :=
  ∀ (s : State) (level : Bool), s.resetAsserted = false → s.fs.sync = .search →
    let r := s.received level
    ((r.fs.fill < s.fmt.syncLen ∨ s.fmt.tolSearch < r.fs.distance s.fmt 0) →
      exec (.bitArrival s.fmt.clockEdge level) s = .next r)
    ∧ (s.fmt.syncLen ≤ r.fs.fill → r.fs.distance s.fmt 0 ≤ s.fmt.tolSearch →
        s.map.swap ≠ .pending →
        exec (.bitArrival s.fmt.clockEdge level) s = .next { r with
          fs := { r.fs with
            sync := .check, goodCount := 0, offset := s.fmt.syncLen - 1, fsn := 0
            decodedMark := false, coastMark := false } })

/-- The distance of a candidate is the number of compared pattern bits that the history disagrees with:
pattern bit i is compared with the bit received i bits before the candidate's last (R6, R19); and a bit
that arrives becomes the newest of the history, of which at most 52 bits are kept (R18). -/
def Obligations.CorrelationComparesTheHistory : Prop :=
  ∀ (fs : FrameSync) (f : Format) (back : Nat) (bit : Bool),
    fs.distance f back
      = ((Finset.range f.syncLen).filter fun i =>
          f.syncMask.getLsbD i = true ∧ fs.history.getLsbD (i + back) ≠ f.syncPattern.getLsbD i).card
    ∧ fs.distance f back ≤ f.comparedBits
    ∧ (fs.push bit).history.getLsbD 0 = bit
    ∧ (∀ i, i < 51 → (fs.push bit).history.getLsbD (i + 1) = fs.history.getLsbD i)
    ∧ (fs.push bit).fill = min 52 (fs.fill + 1)

/-- The sync check in CHECK (R22): a good one below CHECK_COUNT numbers the next frame, the one that
reaches CHECK_COUNT enters LOCK with a LOCK event and the first decoded frame, a bad one returns to
SEARCH without an event. The premises on the swap and the subframe state hold in CHECK (`State.BanksSafe`,
`State.PhaseSafe`). -/
def Obligations.SyncCheckInCheck : Prop :=
  ∀ (s : State) (level : Bool), s.resetAsserted = false → s.fs.sync = .check →
    s.fs.offset + 1 = s.fmt.frameLength + s.fmt.syncLen - 1 → s.map.swap ≠ .pending →
    (s.sf.state = .off ∨ s.sf.state = .search) →
    let r := s.received level
    (r.fs.distance s.fmt 0 ≤ s.fmt.tolCheck → s.fs.goodCount + 1 < s.fmt.checkCount →
      exec (.bitArrival s.fmt.clockEdge level) s = .next { r with
        fs := { r.fs with
          goodCount := s.fs.goodCount + 1, offset := s.fmt.syncLen - 1, fsn := s.fs.fsn + 1
          decodedMark := false, coastMark := false } })
    ∧ (r.fs.distance s.fmt 0 ≤ s.fmt.tolCheck → s.fmt.checkCount ≤ s.fs.goodCount + 1 →
        ∃ n, exec (.bitArrival s.fmt.clockEdge level) s = .next (offerAll
          (if s.ev.recordMask.getLsbD 0 then [[0x6004, s.fs.fsn + 1, 1, 0]] else [])
          { r with
            fs := { r.fs with
              sync := .lock, goodCount := 0, missCount := 0, offset := s.fmt.syncLen - 1
              fsn := s.fs.fsn + 1, decodedMark := true, coastMark := false }
            cap :=
              if s.cap.every = 0 then { s.cap with countdown := 1 }
              else { s.cap with
                countdown := s.cap.every
                current := some { fsn := s.fs.fsn + 1, coast := false, phase := s.knownPhase
                                  slip := 0, buffer := [] } }
            ev := { s.ev with latched := s.ev.latched ||| LatchedBit.lockGained.mask }
            order := n }))
    ∧ (s.fmt.tolCheck < r.fs.distance s.fmt 0 →
        ∃ o, exec (.bitArrival s.fmt.clockEdge level) s = .next { r with
          fs := { r.fs with
            sync := .search, goodCount := 0, missCount := 0, offset := o
            decodedMark := false, coastMark := false }
          sf := if 1 < s.fmt.depth then
              { state := .search, held := none, goodCount := 0, missCount := 0 } else s.sf })

/-- The slip window is tried in the order exact, -1, +1, -2, +2, no further out than SLIP_WIN, and the
first candidate within TOL_LOCK is taken (R24). The candidate at offset o ends SLIP_WIN - o bits before
the newest bit (R23). -/
def Obligations.SlipCandidatesTriedInOrder : Prop :=
  ∀ s : State, s.fmt.slipWin ≤ 2 →
    let d := fun o : Int => s.fs.distance s.fmt ((s.fmt.slipWin : Int) - o).toNat
    let turn := fun o : Int => if o < 0 then 2 * o.natAbs - 1 else 2 * o.natAbs
    (∀ o, s.takenOffset = some o ↔
      o.natAbs ≤ s.fmt.slipWin ∧ d o ≤ s.fmt.tolLock
        ∧ ∀ q : Int, q.natAbs ≤ s.fmt.slipWin → turn q < turn o → s.fmt.tolLock < d q)
    ∧ (s.takenOffset = none ↔ ∀ o : Int, o.natAbs ≤ s.fmt.slipWin → s.fmt.tolLock < d o)

/-- An exact pass in LOCK: the state stays LOCK, FSN increases, and a decoded frame begins with slip
offset 0, out of COAST and without an event (R25). The mark that `State.received` carries is the model's
(log 24). -/
def Obligations.ExactPassInLock : Prop :=
  ∀ (s : State) (level : Bool), s.resetAsserted = false → s.fs.sync = .lock → s.fmt.InRange →
    s.fs.offset + 1 = s.fmt.frameLength + s.fmt.syncLen - 1 + s.fmt.slipWin →
    let r := s.received level
    r.fs.distance s.fmt s.fmt.slipWin ≤ s.fmt.tolLock →
    exec (.bitArrival s.fmt.clockEdge level) s = .next (startFrame
      { r.fs with
        sync := .lock, missCount := 0, offset := s.fmt.syncLen - 1 + s.fmt.slipWin
        fsn := s.fs.fsn + 1, decodedMark := true, coastMark := false }
      0 false [] r)

/-- A pass at offset o in LOCK or COAST (R25, R26, R28, R29): LOCK, RELOCK from COAST, then SLIP for a
nonzero offset, the frame moved by o bits; the bits already received of the new frame complete position
1 at the check itself only when WLEN is 4 and they number 4. -/
def Obligations.PassMovesTheFrameStart : Prop :=
  ∀ (s : State) (level : Bool) (o : Int), s.resetAsserted = false →
    (s.fs.sync = .lock ∨ s.fs.sync = .coast) → s.fmt.InRange →
    s.fs.offset + 1 = s.fmt.frameLength + s.fmt.syncLen - 1 + s.fmt.slipWin →
    (s.received level).takenOffset = some o →
    let r := s.received level
    let t := startFrame
      { r.fs with
        sync := .lock, missCount := 0
        offset := ((s.fmt.syncLen : Int) - 1 + ((s.fmt.slipWin : Int) - o)).toNat
        fsn := s.fs.fsn + 1, decodedMark := true, coastMark := false
        slips := if o = 0 then s.fs.slips else stopInc s.fs.slips }
      o false
      ((if s.fs.sync = .coast then
          [{ code := .relock, arg := 0, fsn := s.fs.fsn + 1, coast := false }] else [])
        ++ (if o = 0 then [] else
          [{ code := .slip, arg := BitVec.ofInt 16 o, fsn := s.fs.fsn + 1, coast := false }])) r
    exec (.bitArrival s.fmt.clockEdge level) s = .next
      (if s.fmt.wlen = 4 ∧ (s.fmt.slipWin : Int) - o = 4 then wordComplete 1 t else t)

/-- A miss in LOCK or COAST (R27, R28): below LOCK_MISS a frame begins in COAST on the expected timing
with a COAST event that carries the miss count; at LOCK_MISS the timing is given up with LOST(MISSES).
SYNC_MISSES counts in both. -/
def Obligations.MissCoastsOrLosesLock : Prop :=
  ∀ (s : State) (level : Bool), s.resetAsserted = false →
    (s.fs.sync = .lock ∨ s.fs.sync = .coast) → s.fmt.InRange →
    s.fs.offset + 1 = s.fmt.frameLength + s.fmt.syncLen - 1 + s.fmt.slipWin →
    (s.received level).takenOffset = none →
    let r := s.received level
    (s.fs.missCount + 1 < s.fmt.lockMiss →
      exec (.bitArrival s.fmt.clockEdge level) s = .next (startFrame
        { r.fs with
          sync := .coast, missCount := s.fs.missCount + 1
          offset := s.fmt.syncLen - 1 + s.fmt.slipWin, fsn := s.fs.fsn + 1
          decodedMark := true, coastMark := true, syncMisses := stopInc s.fs.syncMisses }
        0 false
        [{ code := .coast, arg := BitVec.ofNat 16 (s.fs.missCount + 1), fsn := s.fs.fsn + 1
           coast := true }] r))
    ∧ (s.fmt.lockMiss ≤ s.fs.missCount + 1 →
        ∃ o, exec (.bitArrival s.fmt.clockEdge level) s = .next (enterSearch
          [{ code := .lost, arg := 1, fsn := s.fs.fsn + 1, coast := false }]
          { r with fs := { r.fs with offset := o, syncMisses := stopInc s.fs.syncMisses } }))

/-- What a frame start does in every block that acts at it (R31, R35, R45, R75, R77, R123, R124): the
held phase steps; a pending swap is taken at DEPTH 1, at a phase not known and at phase 0; the countdown
decides the capture. Each event sets its latched bit and, if its EVENT_RECORD_MASK bit is set, offers its
record of header, FSN, code and argument (R34, R167, R168; Tables 10-1, 12-6): `row` gives the code, the
latched bit and the mask bit. The records of the synchronizer's events keep their order, and the SWAP
record stands anywhere among them (8.10). -/
def Obligations.FrameStartReachesEveryBlock : Prop :=
  ∀ (fs : FrameSync) (slip : Int) (first : Bool) (events : List Event) (s : State),
    let row : EventCode → Nat × Option Nat × Option Nat := fun c => match c with
      | .lock => (1, some 0, some 0)
      | .coast => (2, some 2, some 1)
      | .relock => (3, none, some 2)
      | .lost => (4, some 1, some 3)
      | .slip => (5, some 3, some 4)
      | .sfLock => (6, some 4, some 5)
      | .sfLost => (7, some 5, some 6)
      | .swap => (8, some 7, some 7)
      | .mark => (9, none, none)
    let offered : List Event → List Rec := fun es =>
      (es.filter fun e => match (row e.code).2.2 with
        | some b => s.ev.recordMask.getLsbD b
        | none => true).map fun e =>
          [0x6004 ||| (if e.coast then 0x1000 else 0), e.fsn, BitVec.ofNat 16 (row e.code).1, e.arg]
    let stepped : SubframeSync :=
      if fs.decodedMark = true ∧ (s.sf.state = .check ∨ s.sf.state = .lock) then
        { s.sf with held := s.sf.held.map fun p => (p + 1) % s.fmt.depth } else s.sf
    let phase :=
      if stepped.state = .lock ∨ (s.run = .run ∧ s.fmt.depth = 1) then stepped.held else none
    let taken : Bool := decide (s.map.swap = .pending)
      && (decide (s.fmt.depth = 1) || decide (phase = none) || decide (phase = some 0))
    let countdown := if first then 1 else s.cap.countdown
    let swap : List Event :=
      if taken then [{ code := .swap, arg := if s.map.active = .a then 1 else 0, fsn := fs.fsn
                       coast := fs.coastMark }] else []
    ∃ records n latched,
      Interleaves [offered events, offered swap] records
      ∧ (∀ b, latched.getLsbD b = (s.ev.latched.getLsbD b
          || events.any (fun e => decide ((row e.code).2.1 = some b)) || (taken && decide (b = 7))))
      ∧ startFrame fs slip first events s = offerAll records { s with
          fs := fs
          sf := stepped
          map := if taken then { s.map with active := s.map.standby, swap := .editable } else s.map
          cap :=
            if fs.decodedMark = false then s.cap
            else if s.cap.every = 0 then { s.cap with countdown := countdown }
            else if 1 < countdown then { s.cap with countdown := countdown - 1 }
            else { s.cap with
              countdown := s.cap.every
              current := some { fsn := fs.fsn, coast := fs.coastMark, phase := phase, slip := slip
                                buffer := [] } }
          ev := { s.ev with latched := latched }
          order := n }

/-- What an entry into SEARCH does (R36, R52, R53, R76, R77): counts 0 and marks clear; with DEPTH above
1 the phase is given up, with SF_LOST out of SF_LOCK; a pending swap is taken. The FSNs carried are FSN +
1, and FSN itself for the SWAP event. Each event sets its latched bit and, if its EVENT_RECORD_MASK bit is
set, offers its record (R51, R167, R168; Tables 10-1, 12-6): `row` gives the code, the latched bit and the
mask bit. The three blocks' records stand in any order (8.10). -/
def Obligations.TimingLossReachesEveryBlock : Prop :=
  ∀ (events : List Event) (s : State),
    let row : EventCode → Nat × Option Nat × Option Nat := fun c => match c with
      | .lock => (1, some 0, some 0)
      | .coast => (2, some 2, some 1)
      | .relock => (3, none, some 2)
      | .lost => (4, some 1, some 3)
      | .slip => (5, some 3, some 4)
      | .sfLock => (6, some 4, some 5)
      | .sfLost => (7, some 5, some 6)
      | .swap => (8, some 7, some 7)
      | .mark => (9, none, none)
    let offered : List Event → List Rec := fun es =>
      (es.filter fun e => match (row e.code).2.2 with
        | some b => s.ev.recordMask.getLsbD b
        | none => true).map fun e =>
          [0x6004 ||| (if e.coast then 0x1000 else 0), e.fsn, BitVec.ofNat 16 (row e.code).1, e.arg]
    let sfLost : Bool := decide (1 < s.fmt.depth) && decide (s.sf.state = .lock)
    let taken : Bool := decide (s.map.swap = .pending)
    ∃ records n latched,
      Interleaves
        [offered events,
         offered (if sfLost then
           [{ code := .sfLost, arg := 0, fsn := s.fs.fsn + 1, coast := false }] else []),
         offered (if taken then
           [{ code := .swap, arg := if s.map.active = .a then 1 else 0, fsn := s.fs.fsn
              coast := false }] else [])] records
      ∧ (∀ b, latched.getLsbD b = (s.ev.latched.getLsbD b
          || events.any (fun e => decide ((row e.code).2.1 = some b))
          || (sfLost && decide (b = 5)) || (taken && decide (b = 7))))
      ∧ enterSearch events s = offerAll records { s with
          fs := { s.fs with sync := .search, goodCount := 0, missCount := 0, decodedMark := false
                            coastMark := false }
          sf := if 1 < s.fmt.depth then
              { state := .search, held := none, goodCount := 0, missCount := 0 } else s.sf
          map := if taken then { s.map with active := s.map.standby, swap := .editable } else s.map
          ev := { s.ev with latched := latched }
          order := n }

/-- RESYNC and CLOCK_LOSS by sync state (R9, R37, R38): refused or without effect on the frame outside
RUN; nothing but the history's loss in SEARCH; from CHECK into SEARCH without an event; from LOCK or
COAST with LOST and the interruption of the frame. A clock loss also empties the history, clears
CLOCK_PRESENT, stops the timer and sets CLOCK_LOSS. CLOCK_LOSS acts in the period in which the running
timer reaches CLKLOSS_US x 10 REFCLK periods (R8); that it may do so as a command is the model's choice,
log 3. A selected edge taken first in that period restarts the timer: after it CLOCK_LOSS does nothing
(R10), but where the bit gave a reading, by completing word SFID_POS of a decoded frame with DEPTH above
1, CLOCK_LOSS is the happening with LOST(CLOCK) from the state after the reading (R57). That the queue
chooses between the two for such a bit, by holding CLOCK_LOSS or not, is the model's choice, log 24. -/
def Obligations.ResyncAndClockLossBySyncState : Prop :=
  ∀ s : State, s.resetAsserted = false →
    let lost := fun (u : State) (reason : Word) =>
      [({ code := .lost, arg := reason, fsn := u.fs.fsn + 1, coast := false } : Event)]
    let answer := fun (t : State) (r : CmdResult) =>
      { t with host := { t.host with cmdCode := 0x03, cmdResult := r } }
    let unclocked := fun u : State => { u with
      clock := { present := false, timer := .stopped, overtaken := false }
      ev := { u.ev with latched := u.ev.latched ||| LatchedBit.clockLoss.mask } }
    let emptied := fun t : State => { t with fs := { t.fs with history := 0, fill := 0 } }
    let lossOf := fun (u t : State) =>
      (u.fs.sync = .off → t = unclocked u)
      ∧ (u.fs.sync = .search → t = emptied (unclocked u))
      ∧ (u.fs.sync = .check → t = emptied (enterSearch [] (unclocked u)))
      ∧ (u.fs.sync.inLock = true →
          t = emptied (enterSearch (lost u 2) (interruptFrame (unclocked u))))
    let due := ∃ e, s.clock.timer = .running e ∧ s.fmt.clklossUs * 10 ≤ e + 1
    let gaveReading := fun u : State =>
      u.fs.decodedMark = true ∧ 1 < u.fmt.depth ∧ u.fmt.sfidPos ≤ u.fmt.wpf
        ∧ u.fs.offset + 1 = u.fmt.syncLen + u.fmt.sfidPos * u.fmt.wlen
    (s.run = .idle → exec .resync s = .next (answer s .refusedState))
    ∧ (s.run = .run →
        ((s.fs.sync = .off ∨ s.fs.sync = .search) → exec .resync s = .next (answer s .accepted))
        ∧ (s.fs.sync = .check → exec .resync s = .next (answer (enterSearch [] s) .accepted))
        ∧ (s.fs.sync.inLock = true → exec .resync s
            = .next (answer (enterSearch (lost s 3) (interruptFrame s)) .accepted)))
    ∧ (due → ∃ t, exec .clockLoss s = .next t ∧ lossOf s t)
    ∧ (¬ due → s.clock.overtaken = false → exec .clockLoss s = .next s)
    ∧ (s.fmt.InRange → ∀ level, ∃ u, exec (.bitArrival s.fmt.clockEdge level) s = .next u
        ∧ (u.clock.overtaken = true ↔ due)
        ∧ (¬ due ∨ ¬ gaveReading u → exec .clockLoss u = .next u)
        ∧ (due → gaveReading u → ∃ t, exec .clockLoss u = .next t ∧ lossOf u t))

/-- The interruption of a decoded frame (R33, R110, R111, R128): every held upper part goes, each counted
as a join fault, JOIN_FAULT set once; the capture in progress is abandoned and counted; nothing else
changes. The discard at word WPF is the same but for the capture. -/
def Obligations.InterruptionDropsHeldPartsAndCapture : Prop :=
  ∀ s : State, s.MemoriesCanonical →
    let held := (List.range 256).countP fun c => (s.chan.entry c).held.isSome
    let t := interruptFrame s
    (∀ c, t.chan.entry c = { s.chan.entry c with held := none })
    ∧ t.chan.latch = s.chan.latch
    ∧ discardHeld s = { t with cap := s.cap }
    ∧ t = { s with
        chan := t.chan
        dec := { s.dec with
          joinFaults := BitVec.ofNat 16 (min 0xFFFF (s.dec.joinFaults.toNat + held)) }
        ev := { s.ev with
          latched := if 0 < held then s.ev.latched ||| LatchedBit.joinFault.mask else s.ev.latched }
        cap := { s.cap with
          current := none
          abandoned := if s.cap.current = none then s.cap.abandoned else stopInc s.cap.abandoned } }

/-- A bit inside a frame (R1, R21, R32): the offset advances; the word at position k completes at offset
SYNC_LEN + k x WLEN - 1 and is delivered when the frame is decoded, and at no other bit is a word
delivered. -/
def Obligations.FrameBitDeliversCompletedWords : Prop :=
  ∀ (s : State) (level : Bool), s.resetAsserted = false → s.fmt.InRange →
    ((s.fs.sync = .check ∧ s.fs.offset + 1 ≠ s.fmt.frameLength + s.fmt.syncLen - 1)
      ∨ ((s.fs.sync = .lock ∨ s.fs.sync = .coast)
        ∧ s.fs.offset + 1 ≠ s.fmt.frameLength + s.fmt.syncLen - 1 + s.fmt.slipWin)) →
    let r := s.received level
    let t := { r with fs := { r.fs with offset := s.fs.offset + 1 } }
    (∀ k, 1 ≤ k → k ≤ s.fmt.wpf → s.fs.decodedMark = true →
      s.fs.offset + 1 = s.fmt.syncLen + k * s.fmt.wlen - 1 →
      exec (.bitArrival s.fmt.clockEdge level) s = .next (wordComplete k t))
    ∧ ((s.fs.decodedMark = false
        ∨ ∀ k, 1 ≤ k → k ≤ s.fmt.wpf → s.fs.offset + 1 ≠ s.fmt.syncLen + k * s.fmt.wlen - 1) →
      exec (.bitArrival s.fmt.clockEdge level) s = .next t)

/-- The word-complete happening (R32, R43, R44, R64, R88, R110, R125, R126, R170): the raw value is the
last WLEN bits received; decode, capture, SFID reading and marker check each take the word with the phase
as it stood before it; at word WPF the held parts left by the decode are discarded. A marker hits at its
position, which is not 0, when its phase is ANY or is the phase known; it sets its hit flag, and offers a
MARK record under STATUS_AND_RECORD, ascending (R169, R170); SF_LOCK and SF_LOST set their latched bits
and offer their records under their mask bits (R51, R52, R167). The records of the four blocks stand in
any order (8.10). -/
def Obligations.WordCompletionReachesEveryBlock : Prop :=
  ∀ (k : Nat) (s : State),
    let i : WordInfo :=
      { position := k, raw := BitVec.ofNat 16 (s.fs.history.toNat % 2 ^ s.fmt.wlen)
        fsn := s.fs.fsn, coast := s.fs.coastMark
        phase := if s.sf.state = .lock ∨ (s.run = .run ∧ s.fmt.depth = 1) then s.sf.held else none }
    let flag := s.map.captures k
    let last := decide (k = s.fmt.wpf)
    let reading : SubframeSync × SubEvent :=
      if k = s.fmt.sfidPos ∧ 1 < s.fmt.depth then
        s.sf.read s.fmt (i.raw.toNat / 2 ^ s.fmt.sfidLsb % 2 ^ s.fmt.sfidWidth)
      else (s.sf, .noEvent)
    let hitting : List (Nat × Marker) :=
      [(0, s.ev.marker0), (1, s.ev.marker1), (2, s.ev.marker2), (3, s.ev.marker3)].filter fun m =>
        decide (m.2.position ≠ 0 ∧ m.2.position = k
          ∧ (m.2.any = true ∨ i.phase = some m.2.phase.toNat))
    let header : Word := 0x6004 ||| (if i.coast then 0x1000 else 0)
    let decoded := decodeWord i s
    let kept := if k = s.fmt.wpf then discardHeld decoded else decoded
    ∃ records n hits,
      Interleaves
        [sampleOffered i s, s.cap.frameOffered last flag i.raw,
         (match reading.2 with
          | .noEvent => []
          | .locked p =>
            if s.ev.recordMask.getLsbD 5 then [[header, i.fsn, 6, BitVec.ofNat 16 p]] else []
          | .lost => if s.ev.recordMask.getLsbD 6 then [[header, i.fsn, 7, 0]] else []),
         (hitting.filter fun m => decide (m.2.action = .statusAndRecord)).map fun m =>
          [header, i.fsn, 9, BitVec.ofNat 16 m.1]] records
      ∧ (∀ b, hits.getLsbD b
          = (s.ev.hits.getLsbD b || hitting.any (fun m => decide (m.1 = b))))
      ∧ wordComplete k s = offerAll records { kept with
          sf := reading.1
          cap := s.cap.wordComplete last flag i.raw
          ev := { kept.ev with
            hits := hits
            latched := kept.ev.latched ||| (match reading.2 with
              | .noEvent => 0
              | .locked _ => 0x0010
              | .lost => 0x0020) }
          order := n }

/-! ### The major frame (Chapter 3) -/

/-- The mapping between phase and SFID (R42): with DEPTH at most M and SFID_BASE below M, each phase
carries one value, distinct values map to distinct phases, M - DEPTH values map to none, and the
predicted SFID is what the held phase carries. -/
def Obligations.SfidMapsPhasesOneToOne : Prop :=
  ∀ s : State,
    let f := s.fmt
    let M := 2 ^ f.sfidWidth
    f.depth ≤ M → f.sfidBase < M →
    (∀ p, p < f.depth → f.sfidOfPhase p = match f.sfidDir with
      | .up => (f.sfidBase + p) % M
      | .down => (f.sfidBase + M - p) % M)
    ∧ (∀ v, v < M →
        let candidate := match f.sfidDir with
          | .up => (v + M - f.sfidBase) % M
          | .down => (f.sfidBase + M - v) % M
        f.phaseOfSfid v = if candidate < f.depth then some candidate else none)
    ∧ (∀ p, p < f.depth → f.sfidOfPhase p < M ∧ f.phaseOfSfid (f.sfidOfPhase p) = some p)
    ∧ (∀ v p, v < M → f.phaseOfSfid v = some p → p < f.depth ∧ f.sfidOfPhase p = v)
    ∧ (List.range M).countP (fun v => (f.phaseOfSfid v).isNone) = M - f.depth
    ∧ s.predictedSfid = s.sf.held.map f.sfidOfPhase

/-- The outcome of an SFID reading in each subframe state: the nine rows of Table 3-3 (R46 to R50). -/
def Obligations.SfidReadingOutcomes : Prop :=
  ∀ (f : Format) (v : Nat) (sf : SubframeSync),
    let predicted := sf.held.map f.sfidOfPhase
    let taken := fun p : Nat =>
      ({ state := .check, held := some p, goodCount := 0, missCount := 0 } : SubframeSync)
    let search : SubframeSync := { state := .search, held := none, goodCount := 0, missCount := 0 }
    (sf.state = .search →
      (∀ p, f.phaseOfSfid v = some p → sf.read f v = (taken p, .noEvent))
      ∧ (f.phaseOfSfid v = none → sf.read f v = (search, .noEvent)))
    ∧ (sf.state = .check →
        (∀ p, sf.held = some p → predicted = some v →
          (sf.goodCount + 1 < f.sfCheckCount →
            sf.read f v = ({ sf with goodCount := sf.goodCount + 1 }, .noEvent))
          ∧ (f.sfCheckCount ≤ sf.goodCount + 1 →
            sf.read f v = ({ sf with state := .lock, goodCount := 0, missCount := 0 }, .locked p)))
        ∧ (predicted ≠ some v →
          (∀ q, f.phaseOfSfid v = some q → sf.read f v = (taken q, .noEvent))
          ∧ (f.phaseOfSfid v = none → sf.read f v = (search, .noEvent))))
    ∧ (sf.state = .lock →
        (predicted = some v → sf.read f v = ({ sf with missCount := 0 }, .noEvent))
        ∧ (predicted ≠ some v →
          (sf.missCount + 1 < f.sfMiss →
            sf.read f v = ({ sf with missCount := sf.missCount + 1 }, .noEvent))
          ∧ (f.sfMiss ≤ sf.missCount + 1 → sf.read f v = (search, .lost))))

/-! ### The Word Map (Chapter 4) -/

/-- The resolution of a position in the active bank (R60, R61, R64, R65; Table 12-3). Part code 3, which
no bank holds (R67), is not spoken of. -/
def Obligations.ResolutionFollowsTheActiveBank : Prop :=
  ∀ (m : MapStore) (position : Nat) (phase : Option Nat),
    let k := m.bank m.active
    let own := k.mapWord position
    let e := if own.toNat / 2 ^ 14 = 3 then k.mapWord 0 else own
    let kind := e.toNat / 2 ^ 14
    let list := e.toNat % 64
    m.captures position = e.getLsbD 13
    ∧ (kind = 0 → m.resolve position phase = .ignore)
    ∧ (∀ part, kind = 1 →
        (e.toNat / 256 % 4 = 0 ∧ part = .whole ∨ e.toNat / 256 % 4 = 1 ∧ part = .upper
          ∨ e.toNat / 256 % 4 = 2 ∧ part = .lower) →
        m.resolve position phase = .channel (e.toNat % 256) part)
    ∧ (kind = 2 → phase = none → m.resolve position phase = .phaseUnknown)
    ∧ (∀ p, kind = 2 → phase = some p →
        let w := k.poolWord
          ((k.listWord (2 * list)).toNat + p % (k.listWord (2 * list + 1)).toNat)
        m.resolve position phase
          = if w = 0xFFFF then .noSample else .channel (w.toNat % 256) .whole)

/-- Validation examines the default entry and then positions 1 to 512 in ascending order against the four
conditions of Table 4-4, and gives the first failure (R72). -/
def Obligations.ValidationGivesTheFirstFailure : Prop :=
  ∀ k : MapBank,
    let listFault := fun w : Word =>
      let start := (k.listWord (2 * (w.toNat % 64))).toNat
      let length := (k.listWord (2 * (w.toNat % 64) + 1)).toNat
      if length = 0 then some FaultReason.listEmpty
      else if 1024 < start + length then some FaultReason.listRange else none
    let faultAt := fun j : Nat =>
      let w := k.mapWord j
      let kind := w.toNat / 2 ^ 14
      if kind = 2 then listFault w
      else if j = 0 ∧ kind = 3 then some FaultReason.defaultInherit
      else if j = 0 ∧ kind = 1 ∧ w.toNat / 256 % 4 ≠ 0 then some FaultReason.defaultPart else none
    (k.validate = none ↔ ∀ j, j ≤ 512 → faultAt j = none)
    ∧ (∀ j r, k.validate = some (j, r) ↔
        j ≤ 512 ∧ faultAt j = some r ∧ ∀ i, i < j → faultAt i = none)

/-- The end of a validation (R73, R74, R77): a failure writes the fault record, sets SWAP_FAILED and makes
the standby EDITABLE; a pass clears the fault record and waits as PENDING while a frame is decoded, else
takes the swap at once, with a SWAP event that carries the FSN register and a clear coast mark. -/
def Obligations.ValidationEndOutcome : Prop :=
  ∀ s : State, s.resetAsserted = false → s.map.swap = .validating →
    let k := s.map.bank s.map.standby
    let cleared : MapFault := { bank := s.map.standby, location := 0, reason := .noFault }
    let decoding := s.run = .run ∧ (s.fs.sync = .lock ∨ s.fs.sync = .coast)
    (∀ location reason, k.validate = some (location, reason) →
      exec .validationEnd s = .next { s with
        map := { s.map with
          swap := .editable
          fault := { bank := s.map.standby, location := location, reason := reason } }
        ev := { s.ev with latched := s.ev.latched ||| LatchedBit.swapFailed.mask } })
    ∧ (k.validate = none → decoding →
        exec .validationEnd s = .next { s with
          map := { s.map with swap := .pending, fault := cleared } })
    ∧ (k.validate = none → ¬ decoding →
        ∃ n, exec .validationEnd s = .next (offerAll
          (if s.ev.recordMask.getLsbD 7 then
            [[0x6004, s.fs.fsn, 8, if s.map.active = .a then 1 else 0]] else [])
          { s with
            map := { s.map with active := s.map.standby, swap := .editable, fault := cleared }
            ev := { s.ev with latched := s.ev.latched ||| LatchedBit.swapDone.mask }
            order := n }))

/-- SWAP is accepted for an EDITABLE standby and refused as busy otherwise; CANCEL_SWAP is accepted for
one that is VALIDATING or PENDING and refused otherwise; a refusal changes CMD_RESULT alone (R70, R78,
R178). -/
def Obligations.SwapCommandsMoveTheSwapState : Prop :=
  ∀ s : State, s.resetAsserted = false →
    let answer := fun (w : SwapState) (code : BitVec 8) (r : CmdResult) =>
      { s with map := { s.map with swap := w }
               host := { s.host with cmdCode := code, cmdResult := r } }
    (s.map.swap = .editable →
      exec .swap s = .next (answer .validating 0x04 .accepted)
      ∧ exec .cancelSwap s = .next (answer .editable 0x05 .refusedState))
    ∧ (s.map.swap ≠ .editable →
      exec .swap s = .next (answer s.map.swap 0x04 .refusedBusy)
      ∧ exec .cancelSwap s = .next (answer .editable 0x05 .accepted))

/-- A TDATA write inside a bank space (R67, R68, R176): the bank's role, then the swap state, then the
word is checked; an accepted word is stored at its offset and nowhere else; TINDEX steps in every
case. -/
def Obligations.BankWriteCheckedThenStored : Prop :=
  ∀ (s : State) (w : Word) (bank : Bank) (sp : BankSpace), s.resetAsserted = false →
    (s.host.tspace, bank, sp) ∈ [(Space.mapA, Bank.a, BankSpace.map), (.mapB, .b, .map),
      (.listsA, .a, .lists), (.listsB, .b, .lists), (.poolA, .a, .pool), (.poolB, .b, .pool)] →
    s.host.tindex < s.host.tspace.words → s.MemoriesCanonical →
    let k := s.host.tindex
    let stepped := fun t : State =>
      { t with host := { t.host with tindex := k + 1 }, chan := s.chan.atIndex (k + 1) }
    let bad : Prop := match sp with
      | .map => w.toNat / 2 ^ 14 = 1 ∧ w.toNat / 256 % 4 = 3
      | .lists => if k % 2 = 0 then 1023 < w.toNat else 256 < w.toNat
      | .pool => 255 < w.toNat ∧ w ≠ 0xFFFF
    (bank = s.map.active →
      exec (.tdataWrite w) s = .next (stepped (hostError .bankActive s)))
    ∧ (bank ≠ s.map.active → s.map.swap ≠ .editable →
        exec (.tdataWrite w) s = .next (stepped (hostError .bankBusy s)))
    ∧ (bank ≠ s.map.active → s.map.swap = .editable → bad →
        exec (.tdataWrite w) s = .next (stepped (hostError .range s)))
    ∧ (bank ≠ s.map.active → s.map.swap = .editable → ¬ bad →
        ∃ m, exec (.tdataWrite w) s = .next (stepped { s with map := m })
          ∧ (∀ sp' j, (m.bank bank).readSpace sp' j =
              if sp' = sp ∧ j = k then w else (s.map.bank bank).readSpace sp' j)
          ∧ m.bank bank.other = s.map.bank bank.other
          ∧ m.active = s.map.active ∧ m.swap = s.map.swap ∧ m.fault = s.map.fault)

/-! ### Profiles and decoding (Chapter 5) -/

/-- A TDATA write in the PROFILES space (R84 to R86, R176): words 0 to 2 are staged beside copies of the
committed words; word 3 commits the candidate whole, or is refused with PROFILE_INVALID and keeps only a
staging record of the same profile. A candidate is refused on the four conditions of Table 5-2 alone, and
a committed profile reads back its four words, unassigned bits as 0 (R182). -/
def Obligations.ProfileWritesStageAndCommit : Prop :=
  ∀ (s : State) (w : Word), s.resetAsserted = false → s.host.tspace = .profiles →
    s.host.tindex < 64 → s.MemoriesCanonical →
    let k := s.host.tindex
    let n := k / 4
    let fresh : Staging := { number := n, word0 := (s.prof.profile n).word 0
                             word1 := (s.prof.profile n).word 1, word2 := (s.prof.profile n).word 2 }
    let g := match s.prof.staging with
      | some g => if g.number = n then g else fresh
      | none => fresh
    let stepped := fun t : State =>
      { t with host := { t.host with tindex := k + 1 }, chan := s.chan.atIndex (k + 1) }
    let staged := fun g' : Staging =>
      stepped { s with prof := { s.prof with staging := some g' } }
    (k % 4 = 0 → exec (.tdataWrite w) s = .next (staged { g with word0 := w }))
    ∧ (k % 4 = 1 → exec (.tdataWrite w) s = .next (staged { g with word1 := w }))
    ∧ (k % 4 = 2 → exec (.tdataWrite w) s = .next (staged { g with word2 := w }))
    ∧ (∀ p, k % 4 = 3 → profileOf g.word0 g.word1 g.word2 w = some p →
        ∃ t, exec (.tdataWrite w) s = .next (stepped { s with prof := t })
          ∧ (∀ j, t.profile j = if j = n then p else s.prof.profile j) ∧ t.staging = none)
    ∧ (k % 4 = 3 → profileOf g.word0 g.word1 g.word2 w = none →
        exec (.tdataWrite w) s = .next (stepped (hostError .profileInvalid { s with
          prof := { s.prof with
            staging := match s.prof.staging with
              | some h => if h.number = n then some h else none
              | none => none } })))
    ∧ (∀ a b c d : Word,
        (profileOf a b c d = none ↔
          a.toNat / 8 % 4 = 3
            ∨ b.toNat / 256 % 64 = 0 ∨ 32 < b.toNat / 256 % 64
            ∨ 32 < b.toNat % 32 + b.toNat / 256 % 64
            ∨ (a.getLsbD 6 = true ∧ 16 < b.toNat / 256 % 64))
        ∧ ∀ p, profileOf a b c d = some p →
            p.word 0 = a &&& 0x00FF ∧ p.word 1 = b &&& 0x3F1F ∧ p.word 2 = c ∧ p.word 3 = d)

/-- The codings of a field f of width w (R99, Table 5-4), and that the 32-bit value stored for a coded
value reads back, under the same coding, as that value (R99, R100). The field itself is bits FIELD_LSB
upward of the value taken to extraction (R97). -/
def Obligations.CodedValueFitsItsRepresentation : Prop :=
  ∀ w f : Nat, 1 ≤ w → w ≤ 32 → f < 2 ^ w →
    codedValue .unsigned w f = (f : Int)
    ∧ codedValue .twos w f = (if f.testBit (w - 1) then (f : Int) - 2 ^ w else (f : Int))
    ∧ codedValue .offset w f = (f : Int) - 2 ^ (w - 1)
    ∧ codedValue .signMag w f
        = (if f.testBit (w - 1) then -((f % 2 ^ (w - 1) : Nat) : Int)
           else ((f % 2 ^ (w - 1) : Nat) : Int))
    ∧ (∀ coding, storedValue coding (BitVec.ofInt 32 (codedValue coding w f)) = codedValue coding w f)
    ∧ ∀ (p : Profile) (value i : Nat), p.fieldWidth = w →
        (p.field value).testBit i = (decide (i < w) && value.testBit (p.fieldLsb + i))

/-- The decode of a word of an enabled channel, part by part, up to the value taken to extraction (R92 to
R96): a parity failure always counts; DROP stops a WHOLE or LOWER word; an UPPER word is held with its
fail mark; a LOWER word consumes the held part, and is a join fault without one. The ordered word
keeps the raw value under MSB_FIRST; under LSB_FIRST raw bit b becomes bit WLEN - 1 - b (R91). -/
def Obligations.PartsAreOrderedCheckedAndJoined : Prop :=
  ∀ (p : Profile) (wlen c : Nat) (i : WordInfo) (e : ChannelEntry),
    (4 ≤ wlen → wlen ≤ 16 → i.raw.toNat < 2 ^ wlen →
      orderedWord .msbFirst wlen i.raw = i.raw.toNat
      ∧ (∀ b, b < wlen →
          (orderedWord .lsbFirst wlen i.raw).testBit (wlen - 1 - b) = i.raw.getLsbD b)
      ∧ orderedWord .lsbFirst wlen i.raw < 2 ^ wlen) ∧
    let ones := (List.range wlen).countP fun b => i.raw.getLsbD b
    let fails : Bool := match p.parity with
      | .noParity => false
      | .odd => decide (ones % 2 = 0)
      | .even => decide (ones % 2 = 1)
    let drops := fails = true ∧ p.parityAction = .drop
    (drops → decodePart p wlen c .whole i e = { entry := e, parityError := true })
    ∧ (¬ drops → decodePart p wlen c .whole i e
        = decodeValue p c i (orderedWord p.order wlen i.raw) fails fails e)
    ∧ decodePart p wlen c .upper i e =
        { entry := { e with held := some { raw := i.raw, failed := fails } }
          parityError := fails, joinFault := e.held.isSome }
    ∧ (drops → decodePart p wlen c .lower i e
        = { entry := { e with held := none }, parityError := true })
    ∧ (¬ drops → e.held = none →
        decodePart p wlen c .lower i e = { entry := e, parityError := fails, joinFault := true })
    ∧ (∀ h, ¬ drops → e.held = some h → h.failed = true → p.parityAction = .drop →
        decodePart p wlen c .lower i e = { entry := { e with held := none }, parityError := fails })
    ∧ (∀ h, ¬ drops → e.held = some h → (h.failed = false ∨ p.parityAction = .flag) →
        decodePart p wlen c .lower i e = decodeValue p c i
          (orderedWord p.order wlen h.raw * 2 ^ wlen + orderedWord p.order wlen i.raw)
          (fails || h.failed) fails { e with held := none })

/-- From the value to the channel (R98, R100 to R102, R108, R109): a null stops; a change below DEADBAND
of a VALID channel is suppressed; else the entry is updated, a notifying channel reports, and a SAMPLE
record is offered for TABLE_QUEUE. -/
def Obligations.ValueIsNulledSuppressedOrStored : Prop :=
  ∀ (p : Profile) (c : Nat) (i : WordInfo) (value : Nat) (flagged bad : Bool) (e : ChannelEntry),
    let f := p.field value
    let v := codedValue p.coding p.fieldWidth f
    let x := BitVec.ofInt 32 v
    let phase : BitVec 8 := match i.phase with
      | some n => BitVec.ofNat 8 n
      | none => 0xFF
    let null := p.nullEn = true ∧ f = p.nullValue.toNat
    let near := e.valid = true ∧ (v - storedValue p.coding e.value).natAbs < p.deadband.toNat
    (null → decodeValue p c i value flagged bad e
      = { entry := e, parityError := bad, null := true })
    ∧ (¬ null → near → decodeValue p c i value flagged bad e
      = { entry := { e with suppressedCount := stopInc e.suppressedCount }, parityError := bad })
    ∧ (¬ null → ¬ near → decodeValue p c i value flagged bad e =
        { entry := { e with
            value := x, fsn := i.fsn, phase := phase, sampleCount := e.sampleCount + 1, valid := true
            available := true, overrun := e.overrun || e.available, parity := e.parity || flagged }
          parityError := bad
          ready := e.notify
          record := if p.dest = .tableQueue then
              some [0x2005 ||| (if i.coast then 0x1000 else 0) ||| (if flagged then 0x0800 else 0)
                      ||| (if e.available then 0x0400 else 0),
                    i.fsn, (BitVec.ofNat 16 c <<< 8) ||| phase.setWidth 16,
                    x.extractLsb' 16 16, x.extractLsb' 0 16]
            else none })

/-- What a completed word does once it is resolved (R89, R90, R103): nothing for IGNORE and NONE; a skip
counted while the phase is not known; nothing for a disabled channel; else the decode's effect on the
entry of the one channel, the counters and the latched bits. -/
def Obligations.DecodeReachesOneChannel : Prop :=
  ∀ (i : WordInfo) (s : State), s.MemoriesCanonical →
    let found := s.map.resolve i.position i.phase
    ((found = .ignore ∨ found = .noSample) → decodeWord i s = s ∧ sampleOffered i s = [])
    ∧ (found = .phaseUnknown → sampleOffered i s = []
        ∧ decodeWord i s = { s with dec := { s.dec with subcomSkips := stopInc s.dec.subcomSkips } })
    ∧ (∀ c part, found = .channel c part →
        let e := s.chan.entry c
        let d := decodePart (s.prof.profile e.profile.toNat) s.fmt.wlen c part i e
        let t := decodeWord i s
        (∀ c', t.chan.entry c' = if c' = c ∧ e.enable = true then d.entry else s.chan.entry c')
        ∧ t.chan.latch = s.chan.latch
        ∧ sampleOffered i s = (if e.enable then d.record.toList else [])
        ∧ t = { s with
            chan := t.chan
            dec := if e.enable then { s.dec with
                parityErrors := if d.parityError then stopInc s.dec.parityErrors
                  else s.dec.parityErrors
                joinFaults := if d.joinFault then stopInc s.dec.joinFaults else s.dec.joinFaults
                nulls := if d.null then stopInc s.dec.nulls else s.dec.nulls }
              else s.dec
            ev := if e.enable then { s.ev with
                latched := s.ev.latched
                  ||| (if d.parityError then LatchedBit.parityErr.mask else 0)
                  ||| (if d.joinFault then LatchedBit.joinFault.mask else 0)
                  ||| (if d.ready then LatchedBit.channelReady.mask else 0) }
              else s.ev })

/-! ### The Channel Table (Chapter 6) -/

/-- CLEAR_CHANNELS (R119): the dynamic fields of every entry take their power-on values, ENABLE, NOTIFY
and PROFILE are kept, and nothing else changes but CMD_RESULT: not the snapshot latch, not a join fault,
not a status bit. -/
def Obligations.ClearChannelsKeepsTheConfiguration : Prop :=
  ∀ s : State, s.resetAsserted = false → s.MemoriesCanonical →
    ∃ entries, exec .clearChannels s = .next { s with
        chan := { s.chan with entries := entries }
        host := { s.host with cmdCode := 0x08, cmdResult := .accepted } }
      ∧ ∀ c, ChannelTable.entry { s.chan with entries := entries } c =
          { enable := (s.chan.entry c).enable, notify := (s.chan.entry c).notify
            profile := (s.chan.entry c).profile, valid := false, available := false, overrun := false
            parity := false, value := 0, fsn := 0, phase := 0xFF, sampleCount := 0
            suppressedCount := 0, held := none }

/-- A TDATA write in the CHANNELS and SUMMARY spaces, and beyond any space (R116, R117, R176): word 0 sets
the configuration and clears the flags written as 1, OVERRUN with AVAILABLE; words 1 to 7 and SUMMARY are
READ_ONLY; TINDEX steps in all of these, and not beyond the space. -/
def Obligations.ChannelWritesAndRefusedTableWrites : Prop :=
  ∀ (s : State) (w : Word), s.resetAsserted = false → s.MemoriesCanonical →
    let k := s.host.tindex
    let stepped := fun t : State =>
      { t with host := { t.host with tindex := k + 1 }, chan := t.chan.atIndex (k + 1) }
    (s.host.tspace.words ≤ k →
      exec (.tdataWrite w) s = .next (hostError .tableAddress s))
    ∧ (k < 16 → s.host.tspace = .summary →
        exec (.tdataWrite w) s = .next (stepped (hostError .readOnly s)))
    ∧ (k < 2048 → s.host.tspace = .channels → k % 8 ≠ 0 →
        exec (.tdataWrite w) s = .next (stepped (hostError .readOnly s)))
    ∧ (k < 2048 → s.host.tspace = .channels → k % 8 = 0 →
        ∃ entries, exec (.tdataWrite w) s
            = .next (stepped { s with chan := { s.chan with entries := entries } })
          ∧ ∀ c, let e := s.chan.entry c
              ChannelTable.entry { s.chan with entries := entries } c =
                if c = k / 8 then { e with
                  enable := w.getLsbD 0, notify := w.getLsbD 1, profile := w.extractLsb' 4 4
                  available := e.available && !w.getLsbD 9
                  overrun := e.overrun && !w.getLsbD 10 && !w.getLsbD 9
                  parity := e.parity && !w.getLsbD 11 }
                else e)

/-- A read of TDATA (R113, R114, R175): within the space it drives the word at TINDEX, TINDEX steps, and
the snapshot latch is emptied when the step leaves the latched entry; word 0 of a channel entry latches
the whole entry, words 1 to 7 come from the latch when it holds the channel; beyond the space the read
drives 0000h and is refused with TABLE_ADDRESS. `dataBus` is the model's own field for
the word driven (log 9). -/
def Obligations.TableReadStepsAndLatches : Prop :=
  ∀ s : State, s.resetAsserted = false →
    let k := s.host.tindex
    let c := k / 8
    let e := s.chan.entry c
    let read := fun (word : Word) (latch : Option Snapshot) => { s with
      host := { s.host with tindex := k + 1, dataBus := some word }
      chan := { s.chan with
        latch := match latch with
          | some l => if (k + 1) / 8 = l.channel then some l else none
          | none => none } }
    (s.host.tspace.words ≤ k →
      let t := hostError .tableAddress s
      exec .tdataRead s = .next { t with host := { t.host with dataBus := some 0 } })
    ∧ (k < s.host.tspace.words → s.host.tspace ≠ .channels →
        exec .tdataRead s = .next (read (match s.host.tspace with
          | .mapA => s.map.bankA.mapWord k
          | .mapB => s.map.bankB.mapWord k
          | .listsA => s.map.bankA.listWord k
          | .listsB => s.map.bankB.listWord k
          | .poolA => s.map.bankA.poolWord k
          | .poolB => s.map.bankB.poolWord k
          | .profiles => (s.prof.profile (k / 4)).word (k % 4)
          | .channels => 0
          | .summary => s.chan.summaryWord k) s.chan.latch))
    ∧ (k < 2048 → s.host.tspace = .channels → k % 8 = 0 →
        exec .tdataRead s = .next (read (e.word 0) (some { channel := c, words := e.words })))
    ∧ (k < 2048 → s.host.tspace = .channels → k % 8 ≠ 0 →
        (∀ l, s.chan.latch = some l → l.channel = c →
          exec .tdataRead s = .next (read ((l.words[k % 8]?).getD 0) s.chan.latch))
        ∧ ((∀ l, s.chan.latch = some l → l.channel ≠ c) →
          exec .tdataRead s = .next (read (e.word (k % 8)) s.chan.latch)))

/-- The words of a channel entry carry its fields at the places of Table 12-4, and bit b of summary word k
is the AVAILABLE flag of channel 16k + b (R107, R118). That bits 15-8 of word 4 read 0 is the model's
choice (log 25). -/
def Obligations.ChannelWordsShowTheEntry : Prop :=
  (∀ e : ChannelEntry,
    (∀ b, b < 16 → (e.word 0).getLsbD b =
      ((decide (b = 0) && e.enable) || (decide (b = 1) && e.notify)
        || (decide (4 ≤ b ∧ b ≤ 7) && e.profile.getLsbD (b - 4))
        || (decide (b = 8) && e.valid) || (decide (b = 9) && e.available)
        || (decide (b = 10) && e.overrun) || (decide (b = 11) && e.parity)))
    ∧ e.word 1 ++ e.word 2 = e.value ∧ e.word 3 = e.fsn ∧ e.word 4 = e.phase.setWidth 16
    ∧ e.word 5 = e.sampleCount ∧ e.word 6 = e.suppressedCount
    ∧ (e.held = none → e.word 7 = 0)
    ∧ (∀ h, e.held = some h →
        e.word 7 = 0x8000 ||| (if h.failed then 0x4000 else 0) ||| (h.raw &&& 0x3FFF)))
  ∧ ∀ (t : ChannelTable) (k b : Nat), k < 16 → b < 16 →
      (t.summaryWord k).getLsbD b = (t.entry (16 * k + b)).available

/-! ### Frame capture (Chapter 7) -/

/-- A write to CAPTURE (R122): CAPTURE_EVERY takes bits 7-0; a value above 0 loads the countdown with 1;
nothing else changes, a capture in progress included. -/
def Obligations.CaptureWriteLoadsTheCountdown : Prop :=
  ∀ (s : State) (w : Word), s.resetAsserted = false →
    exec (.captureWrite w) s = .next { s with
      cap := { s.cap with
        every := w.toNat % 256
        countdown := if w.toNat % 256 = 0 then s.cap.countdown else 1 } }

/-- A word of a captured frame (R125 to R127; Table 12-5): it is appended when its capture flag is set;
word WPF ends the capture and offers the FRAME record, or nothing when no word was kept; without a capture
in progress nothing happens. That bits 15 and 11-9 of the record's word 2 are 0 is the model's choice
(log 25). -/
def Obligations.CaptureGathersAndOffersItsFrame : Prop :=
  ∀ (u : CaptureUnit) (last flag : Bool) (raw : Word),
    (u.current = none →
      u.wordComplete last flag raw = u ∧ u.frameOffered last flag raw = [])
    ∧ (∀ c, u.current = some c →
        let words := if flag then c.buffer ++ [raw] else c.buffer
        (last = false →
          u.wordComplete last flag raw = { u with current := some { c with buffer := words } }
          ∧ u.frameOffered last flag raw = [])
        ∧ (last = true →
          u.wordComplete last flag raw = { u with current := none }
          ∧ (words = [] → u.frameOffered last flag raw = [])
          ∧ (words ≠ [] → words.length ≤ 512 → c.slip.natAbs ≤ 2 →
              (∀ p, c.phase = some p → p < 256) →
              u.frameOffered last flag raw =
                [[BitVec.ofNat 16 (0x4000 + (if c.coast then 0x1000 else 0) + (4 + words.length)),
                  c.fsn,
                  BitVec.ofNat 16 (c.phase.getD 0xFF + (if c.coast then 0x100 else 0)
                    + (c.slip % 8).toNat * 0x1000),
                  BitVec.ofNat 16 words.length] ++ words])))

/-! ### The Record Queue (Chapter 8) -/

/-- An offer that fits (R134, R135): the record is appended whole, behind a GAP record that carries the
pending-gap count when drops are pending; QCOUNT and QRECORDS grow by what is appended; a store that was
empty gets an untouched head, any other keeps its head and progress; a port in IDLE goes to SENDING
(R152). -/
def Obligations.AdmissionAppendsTheWholeRecord : Prop :=
  ∀ (r : Rec) (s : State), s.OutputSafe → r ≠ [] →
    let gap : List Rec :=
      if s.queue.gapPending = 0 then [] else [[0x8002, s.queue.gapPending]]
    let words := (gap.map List.length).sum + r.length
    s.queue.count + words ≤ 4096 →
    offer r s = { s with
      queue := { s.queue with store := s.queue.store ++ gap ++ [r], gapPending := 0 }
      port := { s.port with mode := if s.port.mode = .idle then .sending else s.port.mode } }
    ∧ (offer r s).queue.count = s.queue.count + words
    ∧ (offer r s).queue.records = s.queue.records + gap.length + 1
    ∧ (s.queue.store ≠ [] → (offer r s).queue.head = s.queue.head
        ∧ (offer r s).queue.headRemain = s.queue.headRemain
        ∧ (offer r s).queue.untouched = s.queue.untouched)
    ∧ (s.queue.store = [] → (offer r s).queue.untouched = true
        ∧ (offer r s).queue.headRemain = if s.queue.gapPending = 0 then r.length else 2)

/-- An offer that does not fit, the GAP record it must carry included, is dropped whole: the pending-gap
count and DROPPED increase, stopping at FFFFh, QUEUE_DROP is set, and nothing else changes (R136). -/
def Obligations.RecordThatDoesNotFitIsDropped : Prop :=
  ∀ (r : Rec) (s : State),
    4096 < s.queue.count + (if s.queue.gapPending = 0 then 0 else 2) + r.length →
    offer r s = { s with
      queue := { s.queue with
        gapPending := BitVec.ofNat 16 (min 0xFFFF (s.queue.gapPending.toNat + 1))
        dropped := BitVec.ofNat 16 (min 0xFFFF (s.queue.dropped.toNat + 1)) }
      ev := { s.ev with latched := s.ev.latched ||| BitVec.twoPow 15 9 } }

/-- The records that several blocks offer at one happening reach the queue each once and in an order that
keeps each block's own (R137, 8.10), whatever the free value (log 4) is. -/
def Obligations.OffersOfOneHappeningInterleave : Prop :=
  ∀ (n : Nat) (groups : List (List Rec)), Interleaves groups (weaveAll n groups)

/-- A read of QDATA (R139, R140): on the HOST route it returns and consumes the next word; the last word
removes the record, and a pending change to PORT is then taken and the port leaves OFF (R145, R151). With
an empty store, or on the PORT route, it returns 0000h and is refused with QDATA_EMPTY. `dataBus` is the model's own field for
the word driven (log 9). -/
def Obligations.QdataPopsOrRefuses : Prop :=
  ∀ s : State, s.resetAsserted = false → s.OutputSafe →
    let driven := fun (w : Word) (t : State) => { t with host := { t.host with dataBus := some w } }
    ((s.queue.active = .port ∨ s.queue.store = []) →
      exec .qdataRead s = .next (driven 0 (hostError .qdataEmpty s)))
    ∧ (∀ record rest, s.queue.active = .host → s.queue.store = record :: rest →
        let word := (record[s.queue.consumed]?).getD 0
        (s.queue.consumed + 1 < record.length →
          exec .qdataRead s = .next (driven word { s with
            queue := { s.queue with consumed := s.queue.consumed + 1 } }))
        ∧ (s.queue.consumed + 1 = record.length →
          (s.queue.requested = .host →
            exec .qdataRead s = .next (driven word { s with
              queue := { s.queue with store := rest, consumed := 0, begun := false } }))
          ∧ (s.queue.requested = .port →
            exec .qdataRead s = .next (driven word { s with
              queue := { s.queue with store := rest, consumed := 0, begun := false
                                      active := .port }
              port := { s.port with mode := if rest = [] then .idle else .sending
                                    clk := some s.port.portDiv } }))))

/-- QFLUSH and SKIP_RECORD (R141, R143, R157). QFLUSH empties the store and clears the pending-gap count,
aborts what the port sends, and lets a pending route change be taken; SKIP_RECORD is refused on the PORT
route and on an empty store, else removes the head, after which a pending change to PORT is taken. Neither
counts a drop. That RO_CLK keeps its half-period at a QFLUSH that leaves the port in IDLE is the model's
(log 13). -/
def Obligations.FlushAndSkipRemoveRecords : Prop :=
  ∀ s : State, s.resetAsserted = false →
    let answer := fun (code : BitVec 8) (r : CmdResult) (t : State) =>
      { t with host := { t.host with cmdCode := code, cmdResult := r } }
    let cut : State := { s with
      queue := { s.queue with store := s.queue.store.tail, consumed := 0, begun := false } }
    let emptied : RecordQueue :=
      { s.queue with store := [], consumed := 0, begun := false, gapPending := 0 }
    let still : OutputPort :=
      { s.port with inFlight := none, stall := .stopped, stallExpired := false, frm := false
                    dat := false }
    (s.queue.requested = s.queue.active →
      exec .qflush s = .next (answer 0x06 .accepted { s with
        queue := emptied
        port := { still with mode := if s.port.mode = .off then .off else .idle } }))
    ∧ (s.queue.requested = .host → s.queue.active = .port →
        exec .qflush s = .next (answer 0x06 .accepted { s with
          queue := { emptied with active := .host }
          port := { still with mode := .off, clk := none } }))
    ∧ (s.queue.requested = .port → s.queue.active = .host →
        exec .qflush s = .next (answer 0x06 .accepted { s with
          queue := { emptied with active := .port }
          port := { still with mode := .idle, clk := some s.port.portDiv } }))
    ∧ ((s.queue.active = .port ∨ s.queue.store = []) →
        exec .skipRecord s = .next (answer 0x07 .refusedState s))
    ∧ (s.queue.active = .host → s.queue.store ≠ [] → s.queue.requested = .host →
        exec .skipRecord s = .next (answer 0x07 .accepted cut))
    ∧ (s.queue.active = .host → s.queue.store ≠ [] → s.queue.requested = .port →
        exec .skipRecord s = .next (answer 0x07 .accepted { cut with
          queue := { cut.queue with active := .port }
          port := { s.port with mode := if s.queue.store.tail = [] then .idle else .sending
                                clk := some s.port.portDiv } }))

/-- A ROUTE write (R144, R145, R151): the requested route takes bit 0; the change is taken at the write
when the store is empty or its head untouched, and the port then leaves OFF or goes to it; over a touched
head it stays pending; a write that names the active route withdraws it. A PORT_CONFIG write (R156) takes both fields; in a pause
whose timer has not expired the timer restarts against a value above 0 and stops for 0; an expired pause,
and any other state, keeps its timer; RO_CLK keeps its half-period at the write. -/
def Obligations.RouteAndPortConfigWrites : Prop :=
  ∀ (s : State) (w : Word), s.resetAsserted = false →
    let asked : Route := if w.getLsbD 0 then .port else .host
    let whole := s.queue.store = [] ∨ (s.queue.consumed = 0 ∧ s.queue.begun = false)
    ((asked = s.queue.active ∨ ¬ whole) →
      exec (.routeWrite w) s = .next { s with queue := { s.queue with requested := asked } })
    ∧ (asked = .port → s.queue.active = .host → whole →
        exec (.routeWrite w) s = .next { s with
          queue := { s.queue with requested := .port, active := .port }
          port := { s.port with mode := if s.queue.store = [] then .idle else .sending
                                clk := some s.port.portDiv } })
    ∧ (asked = .host → s.queue.active = .port → whole →
        exec (.routeWrite w) s = .next { s with
          queue := { s.queue with requested := .host, active := .host }
          port := { s.port with mode := .off, inFlight := none, stall := .stopped
                                stallExpired := false, clk := none, frm := false, dat := false } })
    ∧ exec (.portConfigWrite w) s = .next { s with
        port := { s.port with
          portDiv := w.toNat % 256
          stallMs := w.toNat / 256
          stall :=
            if s.port.mode ≠ .paused ∨ s.port.stallExpired = true then s.port.stall
            else if w.toNat / 256 = 0 then .stopped else .running 0 } }

/-! ### The Record Output Port (Chapter 9) -/

/-- The sample of RO_RDY before a header, and the end of a pause (R152, R154): with RO_RDY high the head
is begun, RO_FRM rises and bit 15 is driven; with RO_RDY low the port pauses, RO_FRM as it stands. The
expiry of the stall timer, in the period in which it reaches PORT_STALL_MS x 10000 REFCLK periods (as a
command: log 3), sets PORT_STALL and stops the timer, and the pause goes on; otherwise, and after the edge
that ended the pause, nothing expires (R155). RO_CLK is modelled by its half-period (log 12). -/
def Obligations.PortBeginsPausesAndStalls : Prop :=
  ∀ s : State, s.resetAsserted = false →
    let word := (s.queue.head[s.queue.consumed]?).getD 0
    let begun : State := { s with
      queue := { s.queue with begun := true }
      port := { s.port with mode := .sending, inFlight := some 0, stall := .stopped
                            stallExpired := false, clk := some s.port.portDiv, frm := true
                            dat := word.getLsbD 15 } }
    (s.port.mode = .sending → s.queue.begun = false →
      exec (.portRecordBegin true) s = .next begun
      ∧ exec (.portRecordBegin false) s = .next { s with
          port := { s.port with
            mode := .paused, inFlight := none
            stall := if s.port.stallMs = 0 then .stopped else .running 0
            stallExpired := false, clk := some s.port.portDiv, dat := false } })
    ∧ (s.port.mode = .paused → exec .portPauseEnd s = .next begun
        ∧ exec .portStallExpiry begun = .next begun)
    ∧ ((∀ e, s.port.stall = .running e → e + 1 < s.port.stallMs * 10000) →
        exec .portStallExpiry s = .next s)
    ∧ (∀ e, s.port.stall = .running e → s.port.stallMs * 10000 ≤ e + 1 →
      exec .portStallExpiry s = .next { s with
        port := { s.port with stall := .stopped, stallExpired := true }
        ev := { s.ev with latched := s.ev.latched ||| LatchedBit.portStall.mask } })

/-- The bits of a word and its boundary (R153): each falling edge drives the next bit down; at the
boundary the word is consumed; inside the record the next word begins with RO_RDY high and the port pauses
with RO_RDY low; the last word removes the record and RO_FRM falls, to IDLE or to the gap before the next
head, or to OFF when a change to HOST is pending. -/
def Obligations.PortSendsWordByWord : Prop :=
  ∀ (s : State) (record : Rec) (rest : List Rec) (rdy : Bool), s.resetAsserted = false →
    s.queue.store = record :: rest → s.port.mode = .sending → s.queue.begun = true →
    let word := fun n : Nat => (record[n]?).getD 0
    (∀ n, n < 15 → s.port.inFlight = some n →
      exec .portBitDrive s = .next { s with
        port := { s.port with inFlight := some (n + 1)
                              dat := (word s.queue.consumed).getLsbD (14 - n) } })
    ∧ (s.port.inFlight = some 15 → s.queue.consumed + 1 < record.length →
        let popped := { s.queue with consumed := s.queue.consumed + 1 }
        exec (.portWordBoundary rdy) s = .next { s with
          queue := popped
          port :=
            if rdy then
              { s.port with mode := .sending, inFlight := some 0, stall := .stopped
                            stallExpired := false, clk := some s.port.portDiv, frm := true
                            dat := (word (s.queue.consumed + 1)).getLsbD 15 }
            else
              { s.port with mode := .paused, inFlight := none
                            stall := if s.port.stallMs = 0 then .stopped else .running 0
                            stallExpired := false, clk := some s.port.portDiv, dat := false } })
    ∧ (s.port.inFlight = some 15 → s.queue.consumed + 1 = record.length →
        let removed := { s.queue with store := rest, consumed := 0, begun := false }
        (s.queue.requested = s.queue.active →
          exec (.portWordBoundary rdy) s = .next { s with
            queue := removed
            port := { s.port with
              mode := if rest = [] then .idle else .sending, inFlight := none, frm := false
              dat := false, clk := if rest = [] then some s.port.portDiv else s.port.clk } })
        ∧ (s.queue.requested = .host → s.queue.active = .port →
          exec (.portWordBoundary rdy) s = .next { s with
            queue := { removed with active := .host }
            port := { s.port with mode := .off, inFlight := none, stall := .stopped
                                  stallExpired := false, clk := none, frm := false
                                  dat := false } }))

/-! ### Events, markers and the interrupt line (Chapter 10) -/

/-- A host error sets HOST_ERROR, raises ERR_COUNT by 1, stopping at FFFFh, and is recorded in ERR_CODE
only where that holds NONE; nothing else changes (R177). The fifteen latched bits stand from LOCK_GAINED
(0) to HOST_ERROR (14) in the order of Table 10-1. Writes to LATCHED_STATUS and MARK_HITS clear the bits
written as 1 and leave the others; a clear of HOST_ERROR sets ERR_CODE to NONE (R162, R171, R177). -/
def Obligations.HostErrorsSetStatusAndOnesClearIt : Prop :=
  (∀ (e : HostError) (s : State),
    hostError e s = { s with
      ev := { s.ev with latched := s.ev.latched ||| 0x4000 }
      host := { s.host with
        errCount := BitVec.ofNat 16 (min 0xFFFF (s.host.errCount.toNat + 1))
        errCode := match s.host.errCode with
          | none => some e
          | some first => some first } })
  ∧ [LatchedBit.lockGained, .lockLost, .coastEntered, .slip, .sfGained, .sfLost, .clockLoss, .swapDone,
      .swapFailed, .queueDrop, .parityErr, .joinFault, .channelReady, .portStall, .hostError].map
        LatchedBit.mask
      = (List.range 15).map (fun b => BitVec.ofNat 15 (2 ^ b))
  ∧ ∀ (s : State) (w : Word), s.resetAsserted = false →
    (∃ t, exec (.latchedStatusWrite w) s = .next t
      ∧ (∀ b, b < 15 → t.ev.latched.getLsbD b = (s.ev.latched.getLsbD b && !w.getLsbD b))
      ∧ t.host.errCode = (if w.getLsbD 14 then none else s.host.errCode)
      ∧ t = { s with ev := { s.ev with latched := t.ev.latched }
                     host := { s.host with errCode := t.host.errCode } })
    ∧ (∃ t, exec (.markHitsWrite w) s = .next t
      ∧ (∀ b, b < 4 → t.ev.hits.getLsbD b = (s.ev.hits.getLsbD b && !w.getLsbD b))
      ∧ t = { s with ev := { s.ev with hits := t.ev.hits } })

/-- The six level bits follow their conditions (R163); the line is active when MASTER_ENABLE and some
status bit with its enable are set (R165); the pin stands at the polarity's level for an active line, is
released for an inactive one under OPEN_DRAIN and driven to the other level under PUSH_PULL (R166);
that it is so after SOFT_RESET too is the model's choice (log 23). The registers 30h to 35h read their bits (R161, R163
to R167, R182). -/
def Obligations.InterruptLineFollowsEnabledStatus : Prop :=
  ∀ (s : State) (rdy : Bool),
    s.levelStatus.getLsbD 0 = decide (s.queue.threshold < s.queue.count)
    ∧ s.levelStatus.getLsbD 1 = decide (s.queue.count = 0)
    ∧ s.levelStatus.getLsbD 2 = s.clock.present
    ∧ s.levelStatus.getLsbD 3 = decide (s.fs.sync = .lock ∨ s.fs.sync = .coast)
    ∧ s.levelStatus.getLsbD 4 = decide (s.sf.state = .lock)
    ∧ s.levelStatus.getLsbD 5 = decide (s.ev.hits ≠ 0)
    ∧ (s.lineActive = true ↔ s.ev.masterEnable = true
        ∧ ((∃ b, s.ev.latched.getLsbD b = true ∧ s.ev.latchedEnable.getLsbD b = true)
          ∨ ∃ b, s.levelStatus.getLsbD b = true ∧ s.ev.levelEnable.getLsbD b = true))
    ∧ (s.resetAsserted = false →
        (s.lineActive = true →
          s.intPin = if s.ev.polarity = .activeLow then .low else .high)
        ∧ (s.lineActive = false → s.ev.drive = .openDrain → s.intPin = .released)
        ∧ (s.lineActive = false → s.ev.drive = .pushPull →
          s.intPin = if s.ev.polarity = .activeLow then .high else .low)
        ∧ readRegister rdy 0x30 s = some (s.ev.latched.setWidth 16)
        ∧ readRegister rdy 0x31 s = some (s.ev.latchedEnable.setWidth 16)
        ∧ readRegister rdy 0x32 s = some (s.levelStatus.setWidth 16)
        ∧ readRegister rdy 0x33 s = some (s.ev.levelEnable.setWidth 16)
        ∧ (∃ w, readRegister rdy 0x34 s = some w
          ∧ ∀ b, b < 16 → w.getLsbD b =
              ((decide (b = 0) && s.ev.masterEnable)
                || (decide (b = 1) && decide (s.ev.polarity = .activeHigh))
                || (decide (b = 2) && decide (s.ev.drive = .pushPull))
                || (decide (b = 15) && s.lineActive)))
        ∧ readRegister rdy 0x35 s = some (s.ev.recordMask.setWidth 16))

/-! ### The register window, commands and resets (Chapters 1, 11 and 12) -/

/-- Writes to TSPACE and TINDEX (R174, R114): TSPACE takes a space that its code names and refuses any
other with RANGE, emptying the snapshot latch in both cases; TINDEX takes bits 11-0 and empties the latch
when that leaves the latched entry. -/
def Obligations.TableAddressWrites : Prop :=
  ∀ (s : State) (w : Word), s.resetAsserted = false →
    let emptied : State := { s with chan := { s.chan with latch := none } }
    (∀ sp : Space, w.toNat % 16 = sp.code →
      exec (.tspaceWrite w) s
        = .next { emptied with host := { s.host with tspace := sp } })
    ∧ (9 ≤ w.toNat % 16 → exec (.tspaceWrite w) s = .next (hostError .range emptied))
    ∧ exec (.tindexWrite w) s = .next { s with
        host := { s.host with tindex := w.toNat % 4096 }
        chan := { s.chan with
          latch := match s.chan.latch with
            | some l => if w.toNat % 4096 / 8 = l.channel then some l else none
            | none => none } }

/-- A write to a frame format register (R4, R5, R183): STATE in RUN; in IDLE the register's fields are
taken whole when every one is in its range, and refused with RANGE otherwise; one word of SYNC_PATTERN or
SYNC_MASK is written alone. A write to FMT_CLKLOSS (R11) is refused in RUN; in IDLE the value is taken and
the loss timer restarts from zero when it is above 0 and CLOCK_PRESENT is set, else it stops. Each of these
registers reads its fields at the places of Table 12-1, so an accepted write reads back, unassigned bits
as 0 (R3, R173, R182). -/
def Obligations.FormatRegistersWrittenWholeReadBack : Prop :=
  ∀ (s : State) (addr : BitVec 6) (w : Word) (rdy : Bool), s.resetAsserted = false →
    formatAddress addr = true → s.fmt.InRange →
    (s.run = .run → exec (.clklossUsWrite w) s = .next (hostError .state s)) ∧
    (s.run = .idle → exec (.clklossUsWrite w) s = .next { s with
      fmt := { s.fmt with clklossUs := w.toNat }
      clock := { s.clock with
        timer := if 0 < w.toNat ∧ s.clock.present = true then .running 0 else .stopped } }) ∧
    let n := w.toNat
    let candidate : Format := match addr.toNat with
      | 0x0E => { s.fmt with syncLen := n % 64, tolSearch := n / 64 % 8, tolCheck := n / 512 % 8
                             tolLock := n / 4096 % 8 }
      | 0x0F => { s.fmt with wpf := n % 1024, wlen := n / 1024 % 32 }
      | 0x10 => { s.fmt with checkCount := n % 16, lockMiss := n / 16 % 16
                             sfCheckCount := n / 256 % 8, sfMiss := n / 4096 % 16 }
      | 0x11 => { s.fmt with depth := n % 512, slipWin := n / 512 % 4, inputInvert := w.getLsbD 11
                             clockEdge := if w.getLsbD 12 then .falling else .rising }
      | 0x12 => { s.fmt with sfidPos := n % 1024, sfidDir := if w.getLsbD 10 then .down else .up }
      | 0x13 => { s.fmt with sfidLsb := n % 16, sfidWidth := n / 16 % 16, sfidBase := n / 256 }
      | _ => s.fmt
    (s.run = .run → exec (.formatRegisterWrite addr w) s = .next (hostError .state s))
    ∧ (s.run = .idle → 0x0E ≤ addr.toNat →
        (candidate.InRange →
          exec (.formatRegisterWrite addr w) s = .next { s with fmt := candidate })
        ∧ (¬ candidate.InRange →
          exec (.formatRegisterWrite addr w) s = .next (hostError .range s)))
    ∧ (s.run = .idle → addr.toNat ≤ 0x0D →
        ∃ t, exec (.formatRegisterWrite addr w) s = .next t
          ∧ t = { s with fmt := { s.fmt with syncPattern := t.fmt.syncPattern
                                             syncMask := t.fmt.syncMask } }
          ∧ ∀ j, j < 3 →
              word48 t.fmt.syncPattern j
                = (if addr.toNat = 0x08 + j then w else word48 s.fmt.syncPattern j)
              ∧ word48 t.fmt.syncMask j
                = (if addr.toNat = 0x0B + j then w else word48 s.fmt.syncMask j))
    ∧ (s.run = .idle → (addr.toNat ≤ 0x0D ∨ candidate.InRange) →
        ∃ t, exec (.formatRegisterWrite addr w) s = .next t
          ∧ readRegister rdy addr t = some (w &&& (match addr.toNat with
            | 0x0E | 0x0F => 0x7FFF
            | 0x10 => 0xF7FF
            | 0x11 => 0x1FFF
            | 0x12 => 0x07FF
            | _ => 0xFFFF)))
    ∧ (s.run = .idle →
        ∃ t, exec (.clklossUsWrite w) s = .next t ∧ readRegister rdy 0x14 t = some w)
    ∧ readRegister rdy 0x14 s = some (BitVec.ofNat 16 s.fmt.clklossUs)
    ∧ readRegister rdy addr s = some (BitVec.ofNat 16 (match addr.toNat with
        | 0x08 => s.fmt.syncPattern.toNat / 2 ^ 32
        | 0x09 => s.fmt.syncPattern.toNat / 2 ^ 16
        | 0x0A => s.fmt.syncPattern.toNat
        | 0x0B => s.fmt.syncMask.toNat / 2 ^ 32
        | 0x0C => s.fmt.syncMask.toNat / 2 ^ 16
        | 0x0D => s.fmt.syncMask.toNat
        | 0x0E => s.fmt.syncLen + 64 * s.fmt.tolSearch + 512 * s.fmt.tolCheck + 4096 * s.fmt.tolLock
        | 0x0F => s.fmt.wpf + 1024 * s.fmt.wlen
        | 0x10 => s.fmt.checkCount + 16 * s.fmt.lockMiss + 256 * s.fmt.sfCheckCount
            + 4096 * s.fmt.sfMiss
        | 0x11 => s.fmt.depth + 512 * s.fmt.slipWin + (if s.fmt.inputInvert then 2048 else 0)
            + (if s.fmt.clockEdge = .falling then 4096 else 0)
        | 0x12 => s.fmt.sfidPos + (if s.fmt.sfidDir = .down then 1024 else 0)
        | _ => s.fmt.sfidLsb + 16 * s.fmt.sfidWidth + 256 * s.fmt.sfidBase))

/-- START (R13, R14, R39, R54; Table 1-3): refused in RUN and for a format that fails a cross-check, else
RUN, SEARCH with an empty history and counts 0, and SF_SEARCH or phase 0. -/
def Obligations.StartChecksTheFormatThenRuns : Prop :=
  ∀ s : State, s.resetAsserted = false →
    let f := s.fmt
    let compared := ((Finset.range f.syncLen).filter fun i => f.syncMask.getLsbD i = true).card
    let passes := f.tolSearch < compared ∧ f.tolCheck < compared ∧ f.tolLock < compared
      ∧ (1 < f.depth → f.sfidPos ≤ f.wpf ∧ f.sfidLsb + f.sfidWidth ≤ f.wlen
          ∧ f.depth ≤ 2 ^ f.sfidWidth ∧ f.sfidBase < 2 ^ f.sfidWidth)
    let answer := fun (t : State) (r : CmdResult) =>
      { t with host := { t.host with cmdCode := 0x01, cmdResult := r } }
    (s.run = .run → exec .start s = .next (answer s .refusedState))
    ∧ (s.run = .idle → ¬ passes → exec .start s = .next (answer s .refusedFormat))
    ∧ (s.run = .idle → passes → exec .start s = .next (answer { s with
        run := .run
        fs := { s.fs with sync := .search, goodCount := 0, missCount := 0, history := 0, fill := 0 }
        sf := if 1 < f.depth then
            { state := .search, held := none, goodCount := 0, missCount := 0 }
          else { state := .off, held := some 0, goodCount := 0, missCount := 0 } } .accepted))

/-- STOP (R15, R39, R55, R76, R111, R128): refused in IDLE; in RUN the synchronizers go to OFF and SF_OFF,
the frame in progress is interrupted, and a pending swap is taken with a SWAP event that carries the FSN
register; beyond the offer of its record nothing else changes. -/
def Obligations.StopReturnsToRest : Prop :=
  ∀ s : State, s.resetAsserted = false →
    let answer := fun (t : State) (r : CmdResult) =>
      { t with host := { t.host with cmdCode := 0x02, cmdResult := r } }
    let rested := interruptFrame { s with
      run := .idle
      fs := { s.fs with sync := .off, goodCount := 0, missCount := 0, history := 0, fill := 0
                        decodedMark := false, coastMark := false }
      sf := { state := .off, held := none, goodCount := 0, missCount := 0 } }
    (s.run = .idle → exec .stop s = .next (answer s .refusedState))
    ∧ (s.run = .run → s.map.swap ≠ .pending → exec .stop s = .next (answer rested .accepted))
    ∧ (s.run = .run → s.map.swap = .pending →
        ∃ n, exec .stop s = .next (answer (offerAll
          (if s.ev.recordMask.getLsbD 7 then
            [[0x6004, s.fs.fsn, 8, if s.map.active = .a then 1 else 0]] else [])
          { rested with
            map := { s.map with active := s.map.standby, swap := .editable }
            ev := { rested.ev with latched := rested.ev.latched ||| LatchedBit.swapDone.mask }
            order := n }) .accepted))

/-- CLEAR_COUNTERS sets every global counter to 0 and leaves everything else but CMD_RESULT (R179). -/
def Obligations.ClearCountersZeroesTheNineCounters : Prop :=
  ∀ s : State, s.resetAsserted = false →
    exec .clearCounters s = .next { s with
      fs := { s.fs with slips := 0, syncMisses := 0 }
      dec := { s.dec with parityErrors := 0, joinFaults := 0, subcomSkips := 0, nulls := 0 }
      cap := { s.cap with abandoned := 0 }
      queue := { s.queue with dropped := 0 }
      host := { s.host with errCount := 0, cmdCode := 0x09, cmdResult := .accepted } }

/-- SOFT_RESET (R181, Table 11-3): the block is as RESET# leaves it, but for the format, both banks and
the selector, the committed profiles, the configuration of every channel, PORT_DIV, POLARITY and DRIVE,
and CMD_RESULT, which shows SOFT_RESET accepted. That the frame offset is 0 (log 7) and that the model's
own fields `dataBus` (log 9) and `overtaken` (log 24) hold nothing are the model's choices. -/
def Obligations.SoftResetKeepsTheConfiguration : Prop :=
  ∀ s : State, s.resetAsserted = false → s.MemoriesCanonical →
    ∃ t, exec .softReset s = .next t
      ∧ (∀ c, t.chan.entry c = { enable := (s.chan.entry c).enable
                                 notify := (s.chan.entry c).notify
                                 profile := (s.chan.entry c).profile })
      ∧ t.chan.latch = none
      ∧ t = { State.reset with
          fmt := s.fmt
          map := { State.reset.map with
            bankA := s.map.bankA, bankB := s.map.bankB, active := s.map.active }
          prof := { State.reset.prof with profiles := s.prof.profiles }
          chan := t.chan
          port := { State.reset.port with portDiv := s.port.portDiv }
          ev := { State.reset.ev with polarity := s.ev.polarity, drive := s.ev.drive }
          host := { State.reset.host with cmdCode := 0x0A, cmdResult := .accepted }
          order := t.order
          pending := s.pending }

/-- A word written to CMD whose code names no command is refused with REFUSED_CODE (R178). A write at an
address whose register has no writable field, or that has no register, is refused with READ_ONLY (R173);
QUEUE_THRESHOLD, LATCHED_ENABLE, LEVEL_ENABLE, INT_CONTROL, EVENT_RECORD_MASK, MARK_POS and MARK_CTL take
their fields, the threshold and the positions with their ranges (R138, R164, R166, R167, R169). Every
register but those of the frame format and of the status and enables (stated with them) reads its fields
at the places of Table 12-1 with the codes of Table 12-2; CMD and 3Fh read 0000h; TDATA and QDATA read
what their reads drive (R41, R132, R144, R149, R173, R178, R182). Fields that the manual bounds are given
with their bounds. The predicted SFID at DEPTH 1 (log 14) and the phase bits of MARK_CTL under ANY (log 15)
read as the model has them. -/
def Obligations.RemainingWritesAndRegisterReads : Prop :=
  ∀ (s : State) (addr : BitVec 6) (w : Word) (rdy : Bool), s.resetAsserted = false →
    let a := addr.toNat
    let reads := fun (at' : BitVec 6) (n : Nat) => readRegister rdy at' s = some (BitVec.ofNat 16 n)
    let bank := fun which : Bank => if which = .a then 0 else 1
    let route := fun r : Route => if r = .host then 0 else 1
    let write := exec (.registerWrite addr w) s
    ((w.toNat % 256 = 0 ∨ 0x0A < w.toNat % 256) →
      exec (.unnamedCommandCode w) s = .next { s with
        host := { s.host with cmdCode := w.setWidth 8, cmdResult := .refusedCode } })
    ∧ ((a = 0x00 ∨ (0x02 ≤ a ∧ a ≤ 0x04) ∨ (0x15 ≤ a ∧ a ≤ 0x21) ∨ (0x23 ≤ a ∧ a ≤ 0x2A)
        ∨ a = 0x2D ∨ a = 0x2E ∨ a = 0x32 ∨ a = 0x3F) → write = .next (hostError .readOnly s))
    ∧ (a = 0x2B → w.toNat ≤ 4095 →
        write = .next { s with queue := { s.queue with threshold := w.toNat } })
    ∧ (a = 0x2B → 4095 < w.toNat → write = .next (hostError .range s))
    ∧ (a = 0x31 → write = .next { s with ev := { s.ev with latchedEnable := w.extractLsb' 0 15 } })
    ∧ (a = 0x33 → write = .next { s with ev := { s.ev with levelEnable := w.extractLsb' 0 6 } })
    ∧ (a = 0x34 → write = .next { s with ev := { s.ev with
        masterEnable := w.getLsbD 0
        polarity := if w.getLsbD 1 then .activeHigh else .activeLow
        drive := if w.getLsbD 2 then .pushPull else .openDrain } })
    ∧ (a = 0x35 → write = .next { s with ev := { s.ev with recordMask := w.extractLsb' 0 8 } })
    ∧ (∀ n, n < 4 → a = 0x36 + n →
        (512 < w.toNat % 1024 → write = .next (hostError .range s))
        ∧ (w.toNat % 1024 ≤ 512 → ∃ ev, write = .next { s with ev := ev }
          ∧ ev = { s.ev with marker0 := ev.marker0, marker1 := ev.marker1
                             marker2 := ev.marker2, marker3 := ev.marker3 }
          ∧ ∀ m, m < 4 → ev.marker m =
              if m = n then { s.ev.marker m with position := w.toNat % 1024 } else s.ev.marker m))
    ∧ (∀ n, n < 4 → a = 0x3A + n →
        ∃ ev, write = .next { s with ev := ev }
          ∧ ev = { s.ev with marker0 := ev.marker0, marker1 := ev.marker1
                             marker2 := ev.marker2, marker3 := ev.marker3 }
          ∧ ∀ m, m < 4 → ev.marker m =
              if m = n then { s.ev.marker m with
                phase := w.extractLsb' 0 8, any := w.getLsbD 8
                action := if w.getLsbD 9 then .statusAndRecord else .status } else s.ev.marker m)
    ∧ reads 0x00 ((if s.run = .run then 1 else 0)
        + 2 * (match s.fs.sync with | .off => 0 | .search => 1 | .check => 2 | .lock => 3 | .coast => 4)
        + 16 * (match s.sf.state with | .off => 0 | .search => 1 | .check => 2 | .lock => 3))
    ∧ reads 0x01 0
    ∧ reads 0x02 (s.host.cmdCode.toNat + 256 * (match s.host.cmdResult with
        | .noResult => 0 | .accepted => 1 | .refusedState => 2 | .refusedBusy => 3
        | .refusedFormat => 4 | .refusedCode => 5))
    ∧ reads 0x03 (match s.host.errCode with
        | none => 0 | some .range => 1 | some .state => 2 | some .readOnly => 3
        | some .bankActive => 4 | some .bankBusy => 5 | some .qdataEmpty => 6
        | some .tableAddress => 7 | some .profileInvalid => 8)
    ∧ reads 0x04 s.host.errCount.toNat
    ∧ reads 0x05 (match s.host.tspace with
        | .mapA => 0 | .mapB => 1 | .listsA => 2 | .listsB => 3 | .poolA => 4 | .poolB => 5
        | .profiles => 6 | .channels => 7 | .summary => 8)
    ∧ reads 0x06 s.host.tindex
    ∧ (∃ t, exec .tdataRead s = .next t ∧ readRegister rdy 0x07 s = t.host.dataBus)
    ∧ (s.fs.goodCount < 16 → s.fs.missCount < 16 →
        reads 0x15 (s.fs.goodCount + 16 * s.fs.missCount))
    ∧ reads 0x16 s.fs.fsn.toNat ∧ reads 0x17 s.fs.slips.toNat ∧ reads 0x18 s.fs.syncMisses.toNat
    ∧ (s.sf.goodCount < 8 → s.sf.missCount < 16 →
        reads 0x19 (s.sf.goodCount + 16 * s.sf.missCount))
    ∧ (s.sf.held = none → reads 0x1A 0 ∧ reads 0x1B 0)
    ∧ (∀ p, s.sf.held = some p → p < 256 →
        reads 0x1A (p + 32768) ∧ reads 0x1B (s.fmt.sfidOfPhase p))
    ∧ reads 0x1C (bank s.map.active
        + 2 * (match s.map.swap with | .editable => 0 | .validating => 1 | .pending => 2))
    ∧ (s.map.fault.location < 1024 → reads 0x1D (s.map.fault.location
        + 1024 * (match s.map.fault.reason with
          | .noFault => 0 | .listEmpty => 1 | .listRange => 2 | .defaultInherit => 3
          | .defaultPart => 4)
        + 32768 * bank s.map.fault.bank))
    ∧ reads 0x1E s.dec.parityErrors.toNat ∧ reads 0x1F s.dec.joinFaults.toNat
    ∧ reads 0x20 s.dec.subcomSkips.toNat ∧ reads 0x21 s.dec.nulls.toNat
    ∧ reads 0x22 s.cap.every
    ∧ (s.cap.current = none → reads 0x23 0)
    ∧ (∀ c, s.cap.current = some c → c.buffer.length < 1024 →
        reads 0x23 (c.buffer.length + 32768))
    ∧ reads 0x24 s.cap.countdown ∧ reads 0x25 s.cap.abandoned.toNat
    ∧ reads 0x26 ((s.queue.store.map List.length).sum - s.queue.consumed)
    ∧ reads 0x27 s.queue.store.length
    ∧ (s.queue.store = [] → reads 0x28 0)
    ∧ (∀ record rest, s.queue.store = record :: rest →
        reads 0x28 (record.length - s.queue.consumed))
    ∧ reads 0x29 s.queue.gapPending.toNat ∧ reads 0x2A s.queue.dropped.toNat
    ∧ reads 0x2B s.queue.threshold
    ∧ reads 0x2C (route s.queue.requested + 2 * route s.queue.active
        + (if s.queue.requested = s.queue.active then 0 else 4))
    ∧ (∃ t, exec .qdataRead s = .next t ∧ readRegister rdy 0x2D s = t.host.dataBus)
    ∧ reads 0x2E ((match s.port.mode with | .off => 0 | .idle => 1 | .sending => 2 | .paused => 3)
        + (if rdy then 4 else 0))
    ∧ (s.port.portDiv < 256 → reads 0x2F (s.port.portDiv + 256 * s.port.stallMs))
    ∧ (∀ m ∈ ([(0x36, 0x3A, s.ev.marker0), (0x37, 0x3B, s.ev.marker1), (0x38, 0x3C, s.ev.marker2),
          (0x39, 0x3D, s.ev.marker3)] : List (BitVec 6 × BitVec 6 × Marker)),
        reads m.1 m.2.2.position
        ∧ reads m.2.1 (m.2.2.phase.toNat + (if m.2.2.any then 256 else 0)
            + (if m.2.2.action = .statusAndRecord then 512 else 0)))
    ∧ reads 0x3E s.ev.hits.toNat ∧ reads 0x3F 0

/-! ### Invariants -/

/-- The machine right after reset meets every invariant of Safety.lean. -/
def Obligations.ResetMeetsEveryInvariant : Prop :=
  State.reset.MemoriesCanonical ∧ State.reset.BanksSafe ∧ State.reset.OutputSafe
    ∧ State.reset.OverrunSafe ∧ State.reset.SyncSafe ∧ State.reset.PhaseSafe
    ∧ State.reset.FrameWorkSafe ∧ State.reset.BufferSafe ∧ State.reset.HeadersTrue

/-- Every step keeps every table memory in its canonical form, and OVERRUN clear wherever AVAILABLE is
clear (R108, R116). -/
def Obligations.StepsKeepTheTablesSound : Prop :=
  ∀ s t : State, s.MemoriesCanonical → s.OverrunSafe → step s = .next t →
    t.MemoriesCanonical ∧ t.OverrunSafe

/-- Every step keeps the active bank valid, and a PENDING standby validated, with PENDING standing only
while a frame is decoded (R69, R74 to R76, R82). -/
def Obligations.StepsKeepTheActiveBankValid : Prop :=
  ∀ s t : State, s.BanksSafe → step s = .next t → t.BanksSafe

/-- Every step keeps the store within 4096 words and the queue, the route and the port in agreement
(R134, R145, R149, R150, R151; Table 9-1). -/
def Obligations.StepsKeepQueueAndPortInAgreement : Prop :=
  ∀ s t : State, s.OutputSafe → step s = .next t → t.OutputSafe

/-- Every step keeps the counts, marks and states of the two synchronizers in their ranges; SF_CHECK and
SF_LOCK stand only while frames are decoded, with a held phase below DEPTH (R2, R17, R31, R41, R54; Table
3-1). -/
def Obligations.StepsKeepTheSynchronizersSound : Prop :=
  ∀ s t : State, s.SyncSafe → s.PhaseSafe → step s = .next t → t.SyncSafe ∧ t.PhaseSafe

/-- Every step keeps held parts and captures inside decoded frames whose word WPF has not completed, a
capture's buffer within the positions completed, and every header true to its record (R110, R121, R125,
R133). -/
def Obligations.StepsKeepFrameWorkInsideFrames : Prop :=
  ∀ s t : State, s.SyncSafe → s.FrameWorkSafe → s.BufferSafe → s.HeadersTrue → step s = .next t →
    t.FrameWorkSafe ∧ t.BufferSafe ∧ t.HeadersTrue

end
end

