-- ==== Sys2Proof/Laws/Events.lean ====
section
/-! SUPPORT. What the Event Unit's operations say bit by bit and word by word, when the two interval
timers expire, and what a host read drives. -/

namespace Sys2Proof.Machine

/-! ### Latched bits and hit flags -/

@[simp] theorem LatchedBit.index_lt (b : LatchedBit) : b.index < 15 := by cases b <;> decide

@[simp] theorem LatchedBit.mask_getLsbD (b : LatchedBit) (i : Nat) :
    b.mask.getLsbD i = decide (i = b.index) := by
  have := b.index_lt
  simp only [LatchedBit.mask, BitVec.getLsbD_twoPow]
  grind

/-- A bit is set by a list of events exactly when it is the latched bit of one of them (R167). -/
theorem latchedBy_getLsbD (evs : List Event) (i : Nat) :
    (latchedBy evs).getLsbD i
      = evs.any fun e => decide (e.code.latchedBit.map LatchedBit.index = some i) := by
  suffices h : ∀ acc : BitVec 15,
      (evs.foldl (fun acc e => match e.code.latchedBit with
        | some b => acc ||| b.mask
        | none => acc) acc).getLsbD i
        = (acc.getLsbD i
          || evs.any fun e => decide (e.code.latchedBit.map LatchedBit.index = some i)) by
    exact (h 0).trans (by simp)
  induction evs with
  | nil => simp
  | cons e es ih =>
    intro acc
    simp only [List.foldl_cons, List.any_cons]
    rw [ih]
    cases e.code.latchedBit with
    | none => simp
    | some b => simp [Bool.or_assoc, eq_comm]

/-- A hit flag is set by the markers that hit (R170). -/
theorem EventUnit.setHits_getLsbD (ev : EventUnit) (ns : List Nat) (hn : ∀ n ∈ ns, n < 4) (i : Nat) :
    (ev.setHits ns).hits.getLsbD i = (ev.hits.getLsbD i || ns.any fun n => decide (n = i)) := by
  suffices h : ∀ acc : BitVec 4, (∀ n ∈ ns, n < 4) →
      (ns.foldl (fun h n => h ||| BitVec.twoPow 4 n) acc).getLsbD i
        = (acc.getLsbD i || ns.any fun n => decide (n = i)) from h ev.hits hn
  clear hn
  induction ns with
  | nil => simp
  | cons n ns ih =>
    intro acc hn
    simp only [List.foldl_cons, List.any_cons]
    rw [ih _ (fun m hm => hn m (List.mem_cons_of_mem _ hm))]
    have := hn n List.mem_cons_self
    simp only [BitVec.getLsbD_or, BitVec.getLsbD_twoPow, Bool.or_assoc]
    grind

/-! ### EVENT records (R168, Table 12-6) -/

/-- The four words of an EVENT record. -/
theorem Event.record_words (e : Event) :
    e.record = [0x6004 ||| (if e.coast then 0x1000 else 0), e.fsn, BitVec.ofNat 16 e.code.code,
      e.arg] := by
  cases h : e.coast <;> simp [Event.record, header, placed, placedBit, RecordKind.code, h]

/-! ### Interval timers (R8, R155) -/

/-- A timer expires in the period in which it reaches its interval, and only while it runs. -/
theorem Timer.expires_iff (t : Timer) (periods : Nat) :
    t.expires periods = true ↔ ∃ e, t = .running e ∧ periods ≤ e + 1 := by
  cases t <;> simp [Timer.expires]

/-- A timer that an edge or a write has just restarted has nothing to expire (R10, R156). -/
theorem Timer.restarted_expires (periods : Nat) (h : 1 < periods) :
    (Timer.running 0).expires periods = false := by
  simp [Timer.expires]
  omega

/-- A clock loss is due exactly when the running loss timer is in the last period of its interval. -/
theorem State.clockExpires_iff (s : State) :
    s.clockExpires = true
      ↔ ∃ e, s.clock.timer = .running e ∧ s.fmt.clklossUs * 10 ≤ e + 1 := by
  simp [State.clockExpires, Timer.expires_iff, Config.refclkPerUs]

@[simp] theorem ClockMonitor.edge_present (due : Bool) (clklossUs : Nat) :
    (ClockMonitor.edge due clklossUs).present = true := rfl
@[simp] theorem ClockMonitor.edge_timer (due : Bool) (clklossUs : Nat) :
    (ClockMonitor.edge due clklossUs).timer
      = if clklossUs = 0 then .stopped else .running 0 := rfl
@[simp] theorem ClockMonitor.edge_overtaken (due : Bool) (clklossUs : Nat) :
    (ClockMonitor.edge due clklossUs).overtaken = due := rfl

/-- No edge leaves an expiry behind it: the timer it restarts is not due (R10). -/
theorem ClockMonitor.edge_expires (due : Bool) (clklossUs : Nat) :
    (ClockMonitor.edge due clklossUs).timer.expires (clklossUs * 10) = false := by
  simp only [ClockMonitor.edge_timer]
  split
  · rfl
  · simp only [Timer.expires, decide_eq_false_iff_not]; omega

/-- Which bits give a reading, in words of the frame layout (R1, R43). -/
theorem State.readingTaken_iff (s : State) :
    s.readingTaken = true
      ↔ s.fs.decodedMark = true ∧ 1 < s.fmt.depth
        ∧ s.fmt.completedAt s.fs.offset = some s.fmt.sfidPos := by
  simp [State.readingTaken, and_assoc]

/-- CLOCK_LOSS is the clock-loss happening, where it is due or follows a reading that overtook it, or
nothing (R9, R10, R57). -/
theorem loseClock_cases (s : State) :
    ((s.clockExpires = true ∨ s.lossFollowsReading = true) ∧ loseClock s = clockLost s)
      ∨ (s.clockExpires = false ∧ s.lossFollowsReading = false ∧ loseClock s = s) := by
  cases h : s.clockExpires <;> cases k : s.lossFollowsReading <;> simp [loseClock, h, k]

/-- PORT_STALL_EXPIRY is the expiry or nothing (R155). -/
theorem expireStall_cases (s : State) :
    (s.stallExpires = true ∧ expireStall s = portStalled s)
      ∨ (s.stallExpires = false ∧ expireStall s = s) := by
  cases h : s.stallExpires <;> simp [expireStall, h]

/-! ### Reads (R172, Table 12-1) -/

/-- With RESET# asserted a read drives nothing. -/
@[simp] theorem readRegister_asserted (rdy : Bool) (addr : BitVec 6) (s : State)
    (h : s.resetAsserted = true) : readRegister rdy addr s = none := by simp [readRegister, h]

/-- With RESET# released a read drives the register's contents. -/
@[simp] theorem readRegister_released (rdy : Bool) (addr : BitVec 6) (s : State)
    (h : s.resetAsserted = false) :
    readRegister rdy addr s = some (s.registerWord rdy addr) := by simp [readRegister, h]

/-- A number placed below bit 16 adds its multiple. -/
theorem placed_eq (n lo : Nat) : placed n lo = BitVec.ofNat 16 (n * 2 ^ lo) := by
  apply BitVec.eq_of_toNat_eq
  simp [placed, BitVec.toNat_shiftLeft, Nat.shiftLeft_eq, Nat.mod_mul_mod]

/-- Two fields that do not overlap are joined by addition. -/
theorem ofNat_or_add (a b lo : Nat) (h : a < 2 ^ lo) :
    (BitVec.ofNat 16 a ||| BitVec.ofNat 16 (b * 2 ^ lo)) = BitVec.ofNat 16 (a + 2 ^ lo * b) := by
  rw [← BitVec.ofNat_or, Nat.mul_comm b, Nat.or_comm, Nat.add_comm,
    Nat.two_pow_add_eq_or_of_lt h]

end Sys2Proof.Machine
end

