-- ==== Sys2Proof/Laws/Memory.lean ====
section
/-! SUPPORT. What the table memories do: a read after a write, the canonical form kept by every
operation, and by the empty memory of reset. -/

namespace Sys2Proof.Machine

variable {α : Type}

theorem Memory.read_unlisted (d : α) (m : Memory α) (k : Nat) (h : ∀ p ∈ m, p.1 ≠ k) :
    Memory.read d m k = d := by
  induction m with
  | nil => rfl
  | cons p rest ih =>
    have hp : p.1 ≠ k := h p (by simp)
    simp [Memory.read, hp, ih fun q hq => h q (by simp [hq])]

theorem Memory.read_above (d : α) (m : Memory α) (k a : Nat) (ha : k ≤ a)
    (h : ∀ p ∈ m, a < p.1) : Memory.read d m k = d :=
  Memory.read_unlisted d m k fun p hp => by have := h p hp; omega

/-- A memory with nothing listed is in the canonical form: every memory of `State.reset` is such. -/
theorem Memory.wf_nil (d : α) (size : Nat) : Memory.Wf d size ([] : Memory α) := by
  simp [Memory.Wf]

variable [DecidableEq α]

/-- Every index reads after a write what the canonical memory says: the contents written at `k`, what
it read before elsewhere. -/
theorem Memory.read_write (d : α) (m : Memory α) (k j : Nat) (v : α)
    (hm : m.Pairwise fun p q => p.1 < q.1) :
    Memory.read d (Memory.write d m k v) j = if j = k then v else Memory.read d m j := by
  induction m with
  | nil => by_cases hv : v = d <;> by_cases hj : j = k <;> simp_all [Memory.write, Memory.read]; omega
  | cons p rest ih =>
    obtain ⟨a, w⟩ := p
    rw [List.pairwise_cons] at hm
    have above : ∀ i, i ≤ a → Memory.read d rest i = d := fun i hi =>
      Memory.read_above d rest i a hi hm.1
    have ihr := ih hm.2
    unfold Memory.write
    split
    · by_cases hv : v = d
      · by_cases hj : j = k
        · subst hj; simp [hv, Memory.read, above j (by omega)]; omega
        · simp [hv, hj]
      · by_cases hj : j = k
        · simp [hv, hj, Memory.read]
        · simp [hv, hj, Memory.read]; omega
    · split
      · rename_i hka
        by_cases hv : v = d
        · by_cases hj : j = k
          · simp [hv, hj, above k (by omega)]
          · have : ¬ a = j := by omega
            simp [hv, hj, Memory.read, this]
        · by_cases hj : j = k
          · simp [hv, hj, Memory.read]
          · have h1 : ¬ a = j := by omega
            have h2 : ¬ k = j := by omega
            simp [hv, hj, Memory.read, h1, h2]
      · by_cases hj : j = k
        · have : ¬ a = k := by omega
          simpa [hj, Memory.read, this] using ihr
        · simp [hj, Memory.read, ihr]

/-- A write at an index of the memory keeps the canonical form. -/
theorem Memory.wf_write (d : α) (size : Nat) (m : Memory α) (k : Nat) (v : α)
    (hm : Memory.Wf d size m) (hk : k < size) : Memory.Wf d size (Memory.write d m k v) := by
  have bounded : ∀ m : Memory α, ∀ p ∈ Memory.write d m k v, p ∈ m ∨ (p = (k, v) ∧ v ≠ d) := by
    intro m
    induction m with
    | nil => intro p hp; by_cases hv : v = d <;> simp_all [Memory.write]
    | cons q rest ih =>
      intro p hp
      unfold Memory.write at hp
      split at hp
      · split at hp <;> simp_all; tauto
      · split at hp
        · split at hp <;> simp_all; tauto
        · simp only [List.mem_cons] at hp ⊢
          rcases hp with hp | hp
          · exact .inl (.inl hp)
          · rcases ih p hp with h | h
            · exact .inl (.inr h)
            · exact .inr h
  have sorted : ∀ m : Memory α, (m.Pairwise fun p q => p.1 < q.1) →
      (Memory.write d m k v).Pairwise fun p q => p.1 < q.1 := by
    intro m
    induction m with
    | nil => intro _; by_cases hv : v = d <;> simp [Memory.write, hv]
    | cons q rest ih =>
      intro h
      obtain ⟨a, w⟩ := q
      rw [List.pairwise_cons] at h
      unfold Memory.write
      split
      · split
        · exact List.pairwise_cons.mpr h
        · refine List.pairwise_cons.mpr ⟨?_, List.pairwise_cons.mpr h⟩
          intro p hp
          rcases List.mem_cons.mp hp with rfl | hp
          · assumption
          · have := h.1 p hp; simp only at this ⊢; omega
      · split
        · rename_i hka
          split
          · exact h.2
          · exact List.pairwise_cons.mpr ⟨fun p hp => hka ▸ h.1 p hp, h.2⟩
        · refine List.pairwise_cons.mpr ⟨?_, ih h.2⟩
          intro p hp
          rcases bounded rest p hp with hr | ⟨rfl, -⟩
          · exact h.1 p hr
          · simp only; omega
  exact ⟨sorted m hm.1, fun p hp => (bounded m p hp).elim (hm.2 p) fun h => h.1 ▸ ⟨hk, h.2⟩⟩

/-- A function applied to the contents of every index is read through, where it keeps what an unlisted
index reads as. -/
theorem Memory.read_mapAll (d : α) (f : α → α) (hf : f d = d) (m : Memory α)
    (hm : m.Pairwise fun p q => p.1 < q.1) (k : Nat) :
    Memory.read d (Memory.mapAll d f m) k = f (Memory.read d m k) := by
  induction m with
  | nil => simp [Memory.mapAll, Memory.read, hf]
  | cons p rest ih =>
    obtain ⟨a, w⟩ := p
    rw [List.pairwise_cons] at hm
    have ihr := ih hm.2
    have above : ∀ i, i ≤ a → Memory.read d rest i = d := fun i hi =>
      Memory.read_above d rest i a hi hm.1
    unfold Memory.mapAll
    split
    · rename_i hw
      rw [ihr]
      by_cases hk : a = k
      · simp [Memory.read, hk, above k (by omega), hw, hf]
      · simp [Memory.read, hk]
    · by_cases hk : a = k <;> simp [Memory.read, hk, ihr]

theorem Memory.mem_mapAll (d : α) (f : α → α) (m : Memory α) (p : Nat × α)
    (hp : p ∈ Memory.mapAll d f m) : ∃ q ∈ m, p = (q.1, f q.2) ∧ f q.2 ≠ d := by
  induction m with
  | nil => simp [Memory.mapAll] at hp
  | cons q rest ih =>
    unfold Memory.mapAll at hp
    split at hp
    · obtain ⟨r, hr, h⟩ := ih hp
      exact ⟨r, by simp [hr], h⟩
    · rename_i hne
      rcases List.mem_cons.mp hp with rfl | hp
      · exact ⟨q, by simp, rfl, hne⟩
      · obtain ⟨r, hr, h⟩ := ih hp
        exact ⟨r, by simp [hr], h⟩

/-- A function applied to the contents of every index keeps the canonical form. -/
theorem Memory.wf_mapAll (d : α) (size : Nat) (f : α → α) (m : Memory α)
    (hm : Memory.Wf d size m) : Memory.Wf d size (Memory.mapAll d f m) := by
  refine ⟨?_, fun p hp => ?_⟩
  · have h := hm.1
    clear hm
    induction m with
    | nil => simp [Memory.mapAll]
    | cons q rest ih =>
      rw [List.pairwise_cons] at h
      unfold Memory.mapAll
      split
      · exact ih h.2
      · refine List.pairwise_cons.mpr ⟨fun p hp => ?_, ih h.2⟩
        obtain ⟨r, hr, rfl, -⟩ := Memory.mem_mapAll d f rest p hp
        exact h.1 r hr
  · obtain ⟨q, hq, rfl, hne⟩ := Memory.mem_mapAll d f m p hp
    exact ⟨(hm.2 q hq).1, hne⟩

/-- The table memories of the machine right after reset list nothing. -/
theorem State.reset_memories_empty :
    State.reset.map.bankA.map = [] ∧ State.reset.map.bankA.lists = []
      ∧ State.reset.map.bankA.pool = [] ∧ State.reset.map.bankB.map = []
      ∧ State.reset.map.bankB.lists = [] ∧ State.reset.map.bankB.pool = []
      ∧ State.reset.prof.profiles = [] ∧ State.reset.chan.entries = [] :=
  ⟨rfl, rfl, rfl, rfl, rfl, rfl, rfl, rfl⟩

end Sys2Proof.Machine
end

