-- ==== Sys2Proof/Laws/State.lean ====
section
/-! SUPPORT. One lemma for each field that a shared operation leaves as it is. -/

namespace Sys2Proof.Machine

/-! ### Event Unit -/

@[simp] theorem EventUnit.latch_latchedEnable (ev : EventUnit) (b : LatchedBit) :
    (ev.latch b).latchedEnable = ev.latchedEnable := rfl
@[simp] theorem EventUnit.latch_levelEnable (ev : EventUnit) (b : LatchedBit) :
    (ev.latch b).levelEnable = ev.levelEnable := rfl
@[simp] theorem EventUnit.latch_masterEnable (ev : EventUnit) (b : LatchedBit) :
    (ev.latch b).masterEnable = ev.masterEnable := rfl
@[simp] theorem EventUnit.latch_polarity (ev : EventUnit) (b : LatchedBit) :
    (ev.latch b).polarity = ev.polarity := rfl
@[simp] theorem EventUnit.latch_drive (ev : EventUnit) (b : LatchedBit) :
    (ev.latch b).drive = ev.drive := rfl
@[simp] theorem EventUnit.latch_recordMask (ev : EventUnit) (b : LatchedBit) :
    (ev.latch b).recordMask = ev.recordMask := rfl
@[simp] theorem EventUnit.latch_marker0 (ev : EventUnit) (b : LatchedBit) :
    (ev.latch b).marker0 = ev.marker0 := rfl
@[simp] theorem EventUnit.latch_marker1 (ev : EventUnit) (b : LatchedBit) :
    (ev.latch b).marker1 = ev.marker1 := rfl
@[simp] theorem EventUnit.latch_marker2 (ev : EventUnit) (b : LatchedBit) :
    (ev.latch b).marker2 = ev.marker2 := rfl
@[simp] theorem EventUnit.latch_marker3 (ev : EventUnit) (b : LatchedBit) :
    (ev.latch b).marker3 = ev.marker3 := rfl
@[simp] theorem EventUnit.latch_hits (ev : EventUnit) (b : LatchedBit) :
    (ev.latch b).hits = ev.hits := rfl
@[simp] theorem EventUnit.latchIf_latchedEnable (ev : EventUnit) (c : Bool) (b : LatchedBit) :
    (ev.latchIf c b).latchedEnable = ev.latchedEnable := rfl
@[simp] theorem EventUnit.latchIf_levelEnable (ev : EventUnit) (c : Bool) (b : LatchedBit) :
    (ev.latchIf c b).levelEnable = ev.levelEnable := rfl
@[simp] theorem EventUnit.latchIf_masterEnable (ev : EventUnit) (c : Bool) (b : LatchedBit) :
    (ev.latchIf c b).masterEnable = ev.masterEnable := rfl
@[simp] theorem EventUnit.latchIf_polarity (ev : EventUnit) (c : Bool) (b : LatchedBit) :
    (ev.latchIf c b).polarity = ev.polarity := rfl
@[simp] theorem EventUnit.latchIf_drive (ev : EventUnit) (c : Bool) (b : LatchedBit) :
    (ev.latchIf c b).drive = ev.drive := rfl
@[simp] theorem EventUnit.latchIf_recordMask (ev : EventUnit) (c : Bool) (b : LatchedBit) :
    (ev.latchIf c b).recordMask = ev.recordMask := rfl
@[simp] theorem EventUnit.latchIf_marker0 (ev : EventUnit) (c : Bool) (b : LatchedBit) :
    (ev.latchIf c b).marker0 = ev.marker0 := rfl
@[simp] theorem EventUnit.latchIf_marker1 (ev : EventUnit) (c : Bool) (b : LatchedBit) :
    (ev.latchIf c b).marker1 = ev.marker1 := rfl
@[simp] theorem EventUnit.latchIf_marker2 (ev : EventUnit) (c : Bool) (b : LatchedBit) :
    (ev.latchIf c b).marker2 = ev.marker2 := rfl
@[simp] theorem EventUnit.latchIf_marker3 (ev : EventUnit) (c : Bool) (b : LatchedBit) :
    (ev.latchIf c b).marker3 = ev.marker3 := rfl
@[simp] theorem EventUnit.latchIf_hits (ev : EventUnit) (c : Bool) (b : LatchedBit) :
    (ev.latchIf c b).hits = ev.hits := rfl

/-! ### Host errors -/

@[simp] theorem hostError_resetAsserted (e : HostError) (s : State) :
    (hostError e s).resetAsserted = s.resetAsserted := rfl
@[simp] theorem hostError_run (e : HostError) (s : State) :
    (hostError e s).run = s.run := rfl
@[simp] theorem hostError_fmt (e : HostError) (s : State) :
    (hostError e s).fmt = s.fmt := rfl
@[simp] theorem hostError_clock (e : HostError) (s : State) :
    (hostError e s).clock = s.clock := rfl
@[simp] theorem hostError_fs (e : HostError) (s : State) :
    (hostError e s).fs = s.fs := rfl
@[simp] theorem hostError_sf (e : HostError) (s : State) :
    (hostError e s).sf = s.sf := rfl
@[simp] theorem hostError_map (e : HostError) (s : State) :
    (hostError e s).map = s.map := rfl
@[simp] theorem hostError_prof (e : HostError) (s : State) :
    (hostError e s).prof = s.prof := rfl
@[simp] theorem hostError_dec (e : HostError) (s : State) :
    (hostError e s).dec = s.dec := rfl
@[simp] theorem hostError_chan (e : HostError) (s : State) :
    (hostError e s).chan = s.chan := rfl
@[simp] theorem hostError_cap (e : HostError) (s : State) :
    (hostError e s).cap = s.cap := rfl
@[simp] theorem hostError_queue (e : HostError) (s : State) :
    (hostError e s).queue = s.queue := rfl
@[simp] theorem hostError_port (e : HostError) (s : State) :
    (hostError e s).port = s.port := rfl
@[simp] theorem hostError_order (e : HostError) (s : State) :
    (hostError e s).order = s.order := rfl
@[simp] theorem hostError_pending (e : HostError) (s : State) :
    (hostError e s).pending = s.pending := rfl

@[simp] theorem hostError_ev_latchedEnable (e : HostError) (s : State) :
    (hostError e s).ev.latchedEnable = s.ev.latchedEnable := rfl
@[simp] theorem hostError_ev_levelEnable (e : HostError) (s : State) :
    (hostError e s).ev.levelEnable = s.ev.levelEnable := rfl
@[simp] theorem hostError_ev_masterEnable (e : HostError) (s : State) :
    (hostError e s).ev.masterEnable = s.ev.masterEnable := rfl
@[simp] theorem hostError_ev_polarity (e : HostError) (s : State) :
    (hostError e s).ev.polarity = s.ev.polarity := rfl
@[simp] theorem hostError_ev_drive (e : HostError) (s : State) :
    (hostError e s).ev.drive = s.ev.drive := rfl
@[simp] theorem hostError_ev_recordMask (e : HostError) (s : State) :
    (hostError e s).ev.recordMask = s.ev.recordMask := rfl
@[simp] theorem hostError_ev_marker0 (e : HostError) (s : State) :
    (hostError e s).ev.marker0 = s.ev.marker0 := rfl
@[simp] theorem hostError_ev_marker1 (e : HostError) (s : State) :
    (hostError e s).ev.marker1 = s.ev.marker1 := rfl
@[simp] theorem hostError_ev_marker2 (e : HostError) (s : State) :
    (hostError e s).ev.marker2 = s.ev.marker2 := rfl
@[simp] theorem hostError_ev_marker3 (e : HostError) (s : State) :
    (hostError e s).ev.marker3 = s.ev.marker3 := rfl
@[simp] theorem hostError_ev_hits (e : HostError) (s : State) :
    (hostError e s).ev.hits = s.ev.hits := rfl

@[simp] theorem hostError_host_tspace (e : HostError) (s : State) :
    (hostError e s).host.tspace = s.host.tspace := rfl
@[simp] theorem hostError_host_tindex (e : HostError) (s : State) :
    (hostError e s).host.tindex = s.host.tindex := rfl
@[simp] theorem hostError_host_cmdCode (e : HostError) (s : State) :
    (hostError e s).host.cmdCode = s.host.cmdCode := rfl
@[simp] theorem hostError_host_cmdResult (e : HostError) (s : State) :
    (hostError e s).host.cmdResult = s.host.cmdResult := rfl
@[simp] theorem hostError_host_dataBus (e : HostError) (s : State) :
    (hostError e s).host.dataBus = s.host.dataBus := rfl

/-! ### Offers -/

@[simp] theorem offer_resetAsserted (r : Rec) (s : State) :
    (offer r s).resetAsserted = s.resetAsserted := rfl
@[simp] theorem offer_run (r : Rec) (s : State) :
    (offer r s).run = s.run := rfl
@[simp] theorem offer_fmt (r : Rec) (s : State) :
    (offer r s).fmt = s.fmt := rfl
@[simp] theorem offer_clock (r : Rec) (s : State) :
    (offer r s).clock = s.clock := rfl
@[simp] theorem offer_fs (r : Rec) (s : State) :
    (offer r s).fs = s.fs := rfl
@[simp] theorem offer_sf (r : Rec) (s : State) :
    (offer r s).sf = s.sf := rfl
@[simp] theorem offer_map (r : Rec) (s : State) :
    (offer r s).map = s.map := rfl
@[simp] theorem offer_prof (r : Rec) (s : State) :
    (offer r s).prof = s.prof := rfl
@[simp] theorem offer_dec (r : Rec) (s : State) :
    (offer r s).dec = s.dec := rfl
@[simp] theorem offer_chan (r : Rec) (s : State) :
    (offer r s).chan = s.chan := rfl
@[simp] theorem offer_cap (r : Rec) (s : State) :
    (offer r s).cap = s.cap := rfl
@[simp] theorem offer_host (r : Rec) (s : State) :
    (offer r s).host = s.host := rfl
@[simp] theorem offer_order (r : Rec) (s : State) :
    (offer r s).order = s.order := rfl
@[simp] theorem offer_pending (r : Rec) (s : State) :
    (offer r s).pending = s.pending := rfl

@[simp] theorem offer_ev_latchedEnable (r : Rec) (s : State) :
    (offer r s).ev.latchedEnable = s.ev.latchedEnable := rfl
@[simp] theorem offer_ev_levelEnable (r : Rec) (s : State) :
    (offer r s).ev.levelEnable = s.ev.levelEnable := rfl
@[simp] theorem offer_ev_masterEnable (r : Rec) (s : State) :
    (offer r s).ev.masterEnable = s.ev.masterEnable := rfl
@[simp] theorem offer_ev_polarity (r : Rec) (s : State) :
    (offer r s).ev.polarity = s.ev.polarity := rfl
@[simp] theorem offer_ev_drive (r : Rec) (s : State) :
    (offer r s).ev.drive = s.ev.drive := rfl
@[simp] theorem offer_ev_recordMask (r : Rec) (s : State) :
    (offer r s).ev.recordMask = s.ev.recordMask := rfl
@[simp] theorem offer_ev_marker0 (r : Rec) (s : State) :
    (offer r s).ev.marker0 = s.ev.marker0 := rfl
@[simp] theorem offer_ev_marker1 (r : Rec) (s : State) :
    (offer r s).ev.marker1 = s.ev.marker1 := rfl
@[simp] theorem offer_ev_marker2 (r : Rec) (s : State) :
    (offer r s).ev.marker2 = s.ev.marker2 := rfl
@[simp] theorem offer_ev_marker3 (r : Rec) (s : State) :
    (offer r s).ev.marker3 = s.ev.marker3 := rfl
@[simp] theorem offer_ev_hits (r : Rec) (s : State) :
    (offer r s).ev.hits = s.ev.hits := rfl

@[simp] theorem offer_port_inFlight (r : Rec) (s : State) :
    (offer r s).port.inFlight = s.port.inFlight := rfl
@[simp] theorem offer_port_stall (r : Rec) (s : State) :
    (offer r s).port.stall = s.port.stall := rfl
@[simp] theorem offer_port_stallExpired (r : Rec) (s : State) :
    (offer r s).port.stallExpired = s.port.stallExpired := rfl
@[simp] theorem offer_port_portDiv (r : Rec) (s : State) :
    (offer r s).port.portDiv = s.port.portDiv := rfl
@[simp] theorem offer_port_stallMs (r : Rec) (s : State) :
    (offer r s).port.stallMs = s.port.stallMs := rfl
@[simp] theorem offer_port_clk (r : Rec) (s : State) :
    (offer r s).port.clk = s.port.clk := rfl
@[simp] theorem offer_port_frm (r : Rec) (s : State) :
    (offer r s).port.frm = s.port.frm := rfl
@[simp] theorem offer_port_dat (r : Rec) (s : State) :
    (offer r s).port.dat = s.port.dat := rfl

@[simp] theorem RecordQueue.offered_consumed (q : RecordQueue) (r : Rec) :
    (q.offered r).consumed = q.consumed := by
  unfold RecordQueue.offered; split <;> rfl
@[simp] theorem RecordQueue.offered_begun (q : RecordQueue) (r : Rec) :
    (q.offered r).begun = q.begun := by
  unfold RecordQueue.offered; split <;> rfl
@[simp] theorem RecordQueue.offered_threshold (q : RecordQueue) (r : Rec) :
    (q.offered r).threshold = q.threshold := by
  unfold RecordQueue.offered; split <;> rfl
@[simp] theorem RecordQueue.offered_requested (q : RecordQueue) (r : Rec) :
    (q.offered r).requested = q.requested := by
  unfold RecordQueue.offered; split <;> rfl
@[simp] theorem RecordQueue.offered_active (q : RecordQueue) (r : Rec) :
    (q.offered r).active = q.active := by
  unfold RecordQueue.offered; split <;> rfl


@[simp] theorem offer_queue_consumed (r : Rec) (s : State) :
    (offer r s).queue.consumed = s.queue.consumed := RecordQueue.offered_consumed s.queue r
@[simp] theorem offer_queue_begun (r : Rec) (s : State) :
    (offer r s).queue.begun = s.queue.begun := RecordQueue.offered_begun s.queue r
@[simp] theorem offer_queue_threshold (r : Rec) (s : State) :
    (offer r s).queue.threshold = s.queue.threshold := RecordQueue.offered_threshold s.queue r
@[simp] theorem offer_queue_requested (r : Rec) (s : State) :
    (offer r s).queue.requested = s.queue.requested := RecordQueue.offered_requested s.queue r
@[simp] theorem offer_queue_active (r : Rec) (s : State) :
    (offer r s).queue.active = s.queue.active := RecordQueue.offered_active s.queue r

@[simp] theorem offerAll_resetAsserted (rs : List Rec) (s : State) :
    (offerAll rs s).resetAsserted = s.resetAsserted := by
  induction rs generalizing s with
  | nil => rfl
  | cons r rs ih => simp only [offerAll, List.foldl_cons] at ih ⊢; rw [ih]; simp
@[simp] theorem offerAll_run (rs : List Rec) (s : State) :
    (offerAll rs s).run = s.run := by
  induction rs generalizing s with
  | nil => rfl
  | cons r rs ih => simp only [offerAll, List.foldl_cons] at ih ⊢; rw [ih]; simp
@[simp] theorem offerAll_fmt (rs : List Rec) (s : State) :
    (offerAll rs s).fmt = s.fmt := by
  induction rs generalizing s with
  | nil => rfl
  | cons r rs ih => simp only [offerAll, List.foldl_cons] at ih ⊢; rw [ih]; simp
@[simp] theorem offerAll_clock (rs : List Rec) (s : State) :
    (offerAll rs s).clock = s.clock := by
  induction rs generalizing s with
  | nil => rfl
  | cons r rs ih => simp only [offerAll, List.foldl_cons] at ih ⊢; rw [ih]; simp
@[simp] theorem offerAll_fs (rs : List Rec) (s : State) :
    (offerAll rs s).fs = s.fs := by
  induction rs generalizing s with
  | nil => rfl
  | cons r rs ih => simp only [offerAll, List.foldl_cons] at ih ⊢; rw [ih]; simp
@[simp] theorem offerAll_sf (rs : List Rec) (s : State) :
    (offerAll rs s).sf = s.sf := by
  induction rs generalizing s with
  | nil => rfl
  | cons r rs ih => simp only [offerAll, List.foldl_cons] at ih ⊢; rw [ih]; simp
@[simp] theorem offerAll_map (rs : List Rec) (s : State) :
    (offerAll rs s).map = s.map := by
  induction rs generalizing s with
  | nil => rfl
  | cons r rs ih => simp only [offerAll, List.foldl_cons] at ih ⊢; rw [ih]; simp
@[simp] theorem offerAll_prof (rs : List Rec) (s : State) :
    (offerAll rs s).prof = s.prof := by
  induction rs generalizing s with
  | nil => rfl
  | cons r rs ih => simp only [offerAll, List.foldl_cons] at ih ⊢; rw [ih]; simp
@[simp] theorem offerAll_dec (rs : List Rec) (s : State) :
    (offerAll rs s).dec = s.dec := by
  induction rs generalizing s with
  | nil => rfl
  | cons r rs ih => simp only [offerAll, List.foldl_cons] at ih ⊢; rw [ih]; simp
@[simp] theorem offerAll_chan (rs : List Rec) (s : State) :
    (offerAll rs s).chan = s.chan := by
  induction rs generalizing s with
  | nil => rfl
  | cons r rs ih => simp only [offerAll, List.foldl_cons] at ih ⊢; rw [ih]; simp
@[simp] theorem offerAll_cap (rs : List Rec) (s : State) :
    (offerAll rs s).cap = s.cap := by
  induction rs generalizing s with
  | nil => rfl
  | cons r rs ih => simp only [offerAll, List.foldl_cons] at ih ⊢; rw [ih]; simp
@[simp] theorem offerAll_host (rs : List Rec) (s : State) :
    (offerAll rs s).host = s.host := by
  induction rs generalizing s with
  | nil => rfl
  | cons r rs ih => simp only [offerAll, List.foldl_cons] at ih ⊢; rw [ih]; simp
@[simp] theorem offerAll_order (rs : List Rec) (s : State) :
    (offerAll rs s).order = s.order := by
  induction rs generalizing s with
  | nil => rfl
  | cons r rs ih => simp only [offerAll, List.foldl_cons] at ih ⊢; rw [ih]; simp
@[simp] theorem offerAll_pending (rs : List Rec) (s : State) :
    (offerAll rs s).pending = s.pending := by
  induction rs generalizing s with
  | nil => rfl
  | cons r rs ih => simp only [offerAll, List.foldl_cons] at ih ⊢; rw [ih]; simp

@[simp] theorem offerAll_ev_latchedEnable (rs : List Rec) (s : State) :
    (offerAll rs s).ev.latchedEnable = s.ev.latchedEnable := by
  induction rs generalizing s with
  | nil => rfl
  | cons r rs ih => simp only [offerAll, List.foldl_cons] at ih ⊢; rw [ih]; simp
@[simp] theorem offerAll_ev_levelEnable (rs : List Rec) (s : State) :
    (offerAll rs s).ev.levelEnable = s.ev.levelEnable := by
  induction rs generalizing s with
  | nil => rfl
  | cons r rs ih => simp only [offerAll, List.foldl_cons] at ih ⊢; rw [ih]; simp
@[simp] theorem offerAll_ev_masterEnable (rs : List Rec) (s : State) :
    (offerAll rs s).ev.masterEnable = s.ev.masterEnable := by
  induction rs generalizing s with
  | nil => rfl
  | cons r rs ih => simp only [offerAll, List.foldl_cons] at ih ⊢; rw [ih]; simp
@[simp] theorem offerAll_ev_polarity (rs : List Rec) (s : State) :
    (offerAll rs s).ev.polarity = s.ev.polarity := by
  induction rs generalizing s with
  | nil => rfl
  | cons r rs ih => simp only [offerAll, List.foldl_cons] at ih ⊢; rw [ih]; simp
@[simp] theorem offerAll_ev_drive (rs : List Rec) (s : State) :
    (offerAll rs s).ev.drive = s.ev.drive := by
  induction rs generalizing s with
  | nil => rfl
  | cons r rs ih => simp only [offerAll, List.foldl_cons] at ih ⊢; rw [ih]; simp
@[simp] theorem offerAll_ev_recordMask (rs : List Rec) (s : State) :
    (offerAll rs s).ev.recordMask = s.ev.recordMask := by
  induction rs generalizing s with
  | nil => rfl
  | cons r rs ih => simp only [offerAll, List.foldl_cons] at ih ⊢; rw [ih]; simp
@[simp] theorem offerAll_ev_marker0 (rs : List Rec) (s : State) :
    (offerAll rs s).ev.marker0 = s.ev.marker0 := by
  induction rs generalizing s with
  | nil => rfl
  | cons r rs ih => simp only [offerAll, List.foldl_cons] at ih ⊢; rw [ih]; simp
@[simp] theorem offerAll_ev_marker1 (rs : List Rec) (s : State) :
    (offerAll rs s).ev.marker1 = s.ev.marker1 := by
  induction rs generalizing s with
  | nil => rfl
  | cons r rs ih => simp only [offerAll, List.foldl_cons] at ih ⊢; rw [ih]; simp
@[simp] theorem offerAll_ev_marker2 (rs : List Rec) (s : State) :
    (offerAll rs s).ev.marker2 = s.ev.marker2 := by
  induction rs generalizing s with
  | nil => rfl
  | cons r rs ih => simp only [offerAll, List.foldl_cons] at ih ⊢; rw [ih]; simp
@[simp] theorem offerAll_ev_marker3 (rs : List Rec) (s : State) :
    (offerAll rs s).ev.marker3 = s.ev.marker3 := by
  induction rs generalizing s with
  | nil => rfl
  | cons r rs ih => simp only [offerAll, List.foldl_cons] at ih ⊢; rw [ih]; simp
@[simp] theorem offerAll_ev_hits (rs : List Rec) (s : State) :
    (offerAll rs s).ev.hits = s.ev.hits := by
  induction rs generalizing s with
  | nil => rfl
  | cons r rs ih => simp only [offerAll, List.foldl_cons] at ih ⊢; rw [ih]; simp

@[simp] theorem offerAll_port_inFlight (rs : List Rec) (s : State) :
    (offerAll rs s).port.inFlight = s.port.inFlight := by
  induction rs generalizing s with
  | nil => rfl
  | cons r rs ih => simp only [offerAll, List.foldl_cons] at ih ⊢; rw [ih]; simp
@[simp] theorem offerAll_port_stall (rs : List Rec) (s : State) :
    (offerAll rs s).port.stall = s.port.stall := by
  induction rs generalizing s with
  | nil => rfl
  | cons r rs ih => simp only [offerAll, List.foldl_cons] at ih ⊢; rw [ih]; simp
@[simp] theorem offerAll_port_stallExpired (rs : List Rec) (s : State) :
    (offerAll rs s).port.stallExpired = s.port.stallExpired := by
  induction rs generalizing s with
  | nil => rfl
  | cons r rs ih => simp only [offerAll, List.foldl_cons] at ih ⊢; rw [ih]; simp
@[simp] theorem offerAll_port_portDiv (rs : List Rec) (s : State) :
    (offerAll rs s).port.portDiv = s.port.portDiv := by
  induction rs generalizing s with
  | nil => rfl
  | cons r rs ih => simp only [offerAll, List.foldl_cons] at ih ⊢; rw [ih]; simp
@[simp] theorem offerAll_port_stallMs (rs : List Rec) (s : State) :
    (offerAll rs s).port.stallMs = s.port.stallMs := by
  induction rs generalizing s with
  | nil => rfl
  | cons r rs ih => simp only [offerAll, List.foldl_cons] at ih ⊢; rw [ih]; simp
@[simp] theorem offerAll_port_clk (rs : List Rec) (s : State) :
    (offerAll rs s).port.clk = s.port.clk := by
  induction rs generalizing s with
  | nil => rfl
  | cons r rs ih => simp only [offerAll, List.foldl_cons] at ih ⊢; rw [ih]; simp
@[simp] theorem offerAll_port_frm (rs : List Rec) (s : State) :
    (offerAll rs s).port.frm = s.port.frm := by
  induction rs generalizing s with
  | nil => rfl
  | cons r rs ih => simp only [offerAll, List.foldl_cons] at ih ⊢; rw [ih]; simp
@[simp] theorem offerAll_port_dat (rs : List Rec) (s : State) :
    (offerAll rs s).port.dat = s.port.dat := by
  induction rs generalizing s with
  | nil => rfl
  | cons r rs ih => simp only [offerAll, List.foldl_cons] at ih ⊢; rw [ih]; simp

@[simp] theorem offerAll_queue_consumed (rs : List Rec) (s : State) :
    (offerAll rs s).queue.consumed = s.queue.consumed := by
  induction rs generalizing s with
  | nil => rfl
  | cons r rs ih => simp only [offerAll, List.foldl_cons] at ih ⊢; rw [ih]; simp
@[simp] theorem offerAll_queue_begun (rs : List Rec) (s : State) :
    (offerAll rs s).queue.begun = s.queue.begun := by
  induction rs generalizing s with
  | nil => rfl
  | cons r rs ih => simp only [offerAll, List.foldl_cons] at ih ⊢; rw [ih]; simp
@[simp] theorem offerAll_queue_threshold (rs : List Rec) (s : State) :
    (offerAll rs s).queue.threshold = s.queue.threshold := by
  induction rs generalizing s with
  | nil => rfl
  | cons r rs ih => simp only [offerAll, List.foldl_cons] at ih ⊢; rw [ih]; simp
@[simp] theorem offerAll_queue_requested (rs : List Rec) (s : State) :
    (offerAll rs s).queue.requested = s.queue.requested := by
  induction rs generalizing s with
  | nil => rfl
  | cons r rs ih => simp only [offerAll, List.foldl_cons] at ih ⊢; rw [ih]; simp
@[simp] theorem offerAll_queue_active (rs : List Rec) (s : State) :
    (offerAll rs s).queue.active = s.queue.active := by
  induction rs generalizing s with
  | nil => rfl
  | cons r rs ih => simp only [offerAll, List.foldl_cons] at ih ⊢; rw [ih]; simp

@[simp] theorem offerBlocks_resetAsserted (groups : List (List Rec)) (s : State) :
    (offerBlocks groups s).resetAsserted = s.resetAsserted := by simp [offerBlocks]
@[simp] theorem offerBlocks_run (groups : List (List Rec)) (s : State) :
    (offerBlocks groups s).run = s.run := by simp [offerBlocks]
@[simp] theorem offerBlocks_fmt (groups : List (List Rec)) (s : State) :
    (offerBlocks groups s).fmt = s.fmt := by simp [offerBlocks]
@[simp] theorem offerBlocks_clock (groups : List (List Rec)) (s : State) :
    (offerBlocks groups s).clock = s.clock := by simp [offerBlocks]
@[simp] theorem offerBlocks_fs (groups : List (List Rec)) (s : State) :
    (offerBlocks groups s).fs = s.fs := by simp [offerBlocks]
@[simp] theorem offerBlocks_sf (groups : List (List Rec)) (s : State) :
    (offerBlocks groups s).sf = s.sf := by simp [offerBlocks]
@[simp] theorem offerBlocks_map (groups : List (List Rec)) (s : State) :
    (offerBlocks groups s).map = s.map := by simp [offerBlocks]
@[simp] theorem offerBlocks_prof (groups : List (List Rec)) (s : State) :
    (offerBlocks groups s).prof = s.prof := by simp [offerBlocks]
@[simp] theorem offerBlocks_dec (groups : List (List Rec)) (s : State) :
    (offerBlocks groups s).dec = s.dec := by simp [offerBlocks]
@[simp] theorem offerBlocks_chan (groups : List (List Rec)) (s : State) :
    (offerBlocks groups s).chan = s.chan := by simp [offerBlocks]
@[simp] theorem offerBlocks_cap (groups : List (List Rec)) (s : State) :
    (offerBlocks groups s).cap = s.cap := by simp [offerBlocks]
@[simp] theorem offerBlocks_host (groups : List (List Rec)) (s : State) :
    (offerBlocks groups s).host = s.host := by simp [offerBlocks]
@[simp] theorem offerBlocks_pending (groups : List (List Rec)) (s : State) :
    (offerBlocks groups s).pending = s.pending := by simp [offerBlocks]

@[simp] theorem offerBlocks_ev_latchedEnable (groups : List (List Rec)) (s : State) :
    (offerBlocks groups s).ev.latchedEnable = s.ev.latchedEnable := by simp [offerBlocks]
@[simp] theorem offerBlocks_ev_levelEnable (groups : List (List Rec)) (s : State) :
    (offerBlocks groups s).ev.levelEnable = s.ev.levelEnable := by simp [offerBlocks]
@[simp] theorem offerBlocks_ev_masterEnable (groups : List (List Rec)) (s : State) :
    (offerBlocks groups s).ev.masterEnable = s.ev.masterEnable := by simp [offerBlocks]
@[simp] theorem offerBlocks_ev_polarity (groups : List (List Rec)) (s : State) :
    (offerBlocks groups s).ev.polarity = s.ev.polarity := by simp [offerBlocks]
@[simp] theorem offerBlocks_ev_drive (groups : List (List Rec)) (s : State) :
    (offerBlocks groups s).ev.drive = s.ev.drive := by simp [offerBlocks]
@[simp] theorem offerBlocks_ev_recordMask (groups : List (List Rec)) (s : State) :
    (offerBlocks groups s).ev.recordMask = s.ev.recordMask := by simp [offerBlocks]
@[simp] theorem offerBlocks_ev_marker0 (groups : List (List Rec)) (s : State) :
    (offerBlocks groups s).ev.marker0 = s.ev.marker0 := by simp [offerBlocks]
@[simp] theorem offerBlocks_ev_marker1 (groups : List (List Rec)) (s : State) :
    (offerBlocks groups s).ev.marker1 = s.ev.marker1 := by simp [offerBlocks]
@[simp] theorem offerBlocks_ev_marker2 (groups : List (List Rec)) (s : State) :
    (offerBlocks groups s).ev.marker2 = s.ev.marker2 := by simp [offerBlocks]
@[simp] theorem offerBlocks_ev_marker3 (groups : List (List Rec)) (s : State) :
    (offerBlocks groups s).ev.marker3 = s.ev.marker3 := by simp [offerBlocks]
@[simp] theorem offerBlocks_ev_hits (groups : List (List Rec)) (s : State) :
    (offerBlocks groups s).ev.hits = s.ev.hits := by simp [offerBlocks]

@[simp] theorem offerBlocks_port_inFlight (groups : List (List Rec)) (s : State) :
    (offerBlocks groups s).port.inFlight = s.port.inFlight := by simp [offerBlocks]
@[simp] theorem offerBlocks_port_stall (groups : List (List Rec)) (s : State) :
    (offerBlocks groups s).port.stall = s.port.stall := by simp [offerBlocks]
@[simp] theorem offerBlocks_port_stallExpired (groups : List (List Rec)) (s : State) :
    (offerBlocks groups s).port.stallExpired = s.port.stallExpired := by simp [offerBlocks]
@[simp] theorem offerBlocks_port_portDiv (groups : List (List Rec)) (s : State) :
    (offerBlocks groups s).port.portDiv = s.port.portDiv := by simp [offerBlocks]
@[simp] theorem offerBlocks_port_stallMs (groups : List (List Rec)) (s : State) :
    (offerBlocks groups s).port.stallMs = s.port.stallMs := by simp [offerBlocks]
@[simp] theorem offerBlocks_port_clk (groups : List (List Rec)) (s : State) :
    (offerBlocks groups s).port.clk = s.port.clk := by simp [offerBlocks]
@[simp] theorem offerBlocks_port_frm (groups : List (List Rec)) (s : State) :
    (offerBlocks groups s).port.frm = s.port.frm := by simp [offerBlocks]
@[simp] theorem offerBlocks_port_dat (groups : List (List Rec)) (s : State) :
    (offerBlocks groups s).port.dat = s.port.dat := by simp [offerBlocks]

@[simp] theorem offerBlocks_queue_consumed (groups : List (List Rec)) (s : State) :
    (offerBlocks groups s).queue.consumed = s.queue.consumed := by simp [offerBlocks]
@[simp] theorem offerBlocks_queue_begun (groups : List (List Rec)) (s : State) :
    (offerBlocks groups s).queue.begun = s.queue.begun := by simp [offerBlocks]
@[simp] theorem offerBlocks_queue_threshold (groups : List (List Rec)) (s : State) :
    (offerBlocks groups s).queue.threshold = s.queue.threshold := by simp [offerBlocks]
@[simp] theorem offerBlocks_queue_requested (groups : List (List Rec)) (s : State) :
    (offerBlocks groups s).queue.requested = s.queue.requested := by simp [offerBlocks]
@[simp] theorem offerBlocks_queue_active (groups : List (List Rec)) (s : State) :
    (offerBlocks groups s).queue.active = s.queue.active := by simp [offerBlocks]

@[simp] theorem handEvents_resetAsserted (blocks : List (List Event)) (s : State) :
    (handEvents blocks s).resetAsserted = s.resetAsserted := by simp [handEvents]
@[simp] theorem handEvents_run (blocks : List (List Event)) (s : State) :
    (handEvents blocks s).run = s.run := by simp [handEvents]
@[simp] theorem handEvents_fmt (blocks : List (List Event)) (s : State) :
    (handEvents blocks s).fmt = s.fmt := by simp [handEvents]
@[simp] theorem handEvents_clock (blocks : List (List Event)) (s : State) :
    (handEvents blocks s).clock = s.clock := by simp [handEvents]
@[simp] theorem handEvents_fs (blocks : List (List Event)) (s : State) :
    (handEvents blocks s).fs = s.fs := by simp [handEvents]
@[simp] theorem handEvents_sf (blocks : List (List Event)) (s : State) :
    (handEvents blocks s).sf = s.sf := by simp [handEvents]
@[simp] theorem handEvents_map (blocks : List (List Event)) (s : State) :
    (handEvents blocks s).map = s.map := by simp [handEvents]
@[simp] theorem handEvents_prof (blocks : List (List Event)) (s : State) :
    (handEvents blocks s).prof = s.prof := by simp [handEvents]
@[simp] theorem handEvents_dec (blocks : List (List Event)) (s : State) :
    (handEvents blocks s).dec = s.dec := by simp [handEvents]
@[simp] theorem handEvents_chan (blocks : List (List Event)) (s : State) :
    (handEvents blocks s).chan = s.chan := by simp [handEvents]
@[simp] theorem handEvents_cap (blocks : List (List Event)) (s : State) :
    (handEvents blocks s).cap = s.cap := by simp [handEvents]
@[simp] theorem handEvents_host (blocks : List (List Event)) (s : State) :
    (handEvents blocks s).host = s.host := by simp [handEvents]
@[simp] theorem handEvents_pending (blocks : List (List Event)) (s : State) :
    (handEvents blocks s).pending = s.pending := by simp [handEvents]

@[simp] theorem handEvents_ev_latchedEnable (blocks : List (List Event)) (s : State) :
    (handEvents blocks s).ev.latchedEnable = s.ev.latchedEnable := by simp [handEvents]
@[simp] theorem handEvents_ev_levelEnable (blocks : List (List Event)) (s : State) :
    (handEvents blocks s).ev.levelEnable = s.ev.levelEnable := by simp [handEvents]
@[simp] theorem handEvents_ev_masterEnable (blocks : List (List Event)) (s : State) :
    (handEvents blocks s).ev.masterEnable = s.ev.masterEnable := by simp [handEvents]
@[simp] theorem handEvents_ev_polarity (blocks : List (List Event)) (s : State) :
    (handEvents blocks s).ev.polarity = s.ev.polarity := by simp [handEvents]
@[simp] theorem handEvents_ev_drive (blocks : List (List Event)) (s : State) :
    (handEvents blocks s).ev.drive = s.ev.drive := by simp [handEvents]
@[simp] theorem handEvents_ev_recordMask (blocks : List (List Event)) (s : State) :
    (handEvents blocks s).ev.recordMask = s.ev.recordMask := by simp [handEvents]
@[simp] theorem handEvents_ev_marker0 (blocks : List (List Event)) (s : State) :
    (handEvents blocks s).ev.marker0 = s.ev.marker0 := by simp [handEvents]
@[simp] theorem handEvents_ev_marker1 (blocks : List (List Event)) (s : State) :
    (handEvents blocks s).ev.marker1 = s.ev.marker1 := by simp [handEvents]
@[simp] theorem handEvents_ev_marker2 (blocks : List (List Event)) (s : State) :
    (handEvents blocks s).ev.marker2 = s.ev.marker2 := by simp [handEvents]
@[simp] theorem handEvents_ev_marker3 (blocks : List (List Event)) (s : State) :
    (handEvents blocks s).ev.marker3 = s.ev.marker3 := by simp [handEvents]
@[simp] theorem handEvents_ev_hits (blocks : List (List Event)) (s : State) :
    (handEvents blocks s).ev.hits = s.ev.hits := by simp [handEvents]

@[simp] theorem handEvents_port_inFlight (blocks : List (List Event)) (s : State) :
    (handEvents blocks s).port.inFlight = s.port.inFlight := by simp [handEvents]
@[simp] theorem handEvents_port_stall (blocks : List (List Event)) (s : State) :
    (handEvents blocks s).port.stall = s.port.stall := by simp [handEvents]
@[simp] theorem handEvents_port_stallExpired (blocks : List (List Event)) (s : State) :
    (handEvents blocks s).port.stallExpired = s.port.stallExpired := by simp [handEvents]
@[simp] theorem handEvents_port_portDiv (blocks : List (List Event)) (s : State) :
    (handEvents blocks s).port.portDiv = s.port.portDiv := by simp [handEvents]
@[simp] theorem handEvents_port_stallMs (blocks : List (List Event)) (s : State) :
    (handEvents blocks s).port.stallMs = s.port.stallMs := by simp [handEvents]
@[simp] theorem handEvents_port_clk (blocks : List (List Event)) (s : State) :
    (handEvents blocks s).port.clk = s.port.clk := by simp [handEvents]
@[simp] theorem handEvents_port_frm (blocks : List (List Event)) (s : State) :
    (handEvents blocks s).port.frm = s.port.frm := by simp [handEvents]
@[simp] theorem handEvents_port_dat (blocks : List (List Event)) (s : State) :
    (handEvents blocks s).port.dat = s.port.dat := by simp [handEvents]

@[simp] theorem handEvents_queue_consumed (blocks : List (List Event)) (s : State) :
    (handEvents blocks s).queue.consumed = s.queue.consumed := by simp [handEvents]
@[simp] theorem handEvents_queue_begun (blocks : List (List Event)) (s : State) :
    (handEvents blocks s).queue.begun = s.queue.begun := by simp [handEvents]
@[simp] theorem handEvents_queue_threshold (blocks : List (List Event)) (s : State) :
    (handEvents blocks s).queue.threshold = s.queue.threshold := by simp [handEvents]
@[simp] theorem handEvents_queue_requested (blocks : List (List Event)) (s : State) :
    (handEvents blocks s).queue.requested = s.queue.requested := by simp [handEvents]
@[simp] theorem handEvents_queue_active (blocks : List (List Event)) (s : State) :
    (handEvents blocks s).queue.active = s.queue.active := by simp [handEvents]

/-! ### Held parts, the route, the Table Access Port -/

@[simp] theorem discardHeld_resetAsserted (s : State) :
    (discardHeld s).resetAsserted = s.resetAsserted := rfl
@[simp] theorem discardHeld_run (s : State) :
    (discardHeld s).run = s.run := rfl
@[simp] theorem discardHeld_fmt (s : State) :
    (discardHeld s).fmt = s.fmt := rfl
@[simp] theorem discardHeld_clock (s : State) :
    (discardHeld s).clock = s.clock := rfl
@[simp] theorem discardHeld_fs (s : State) :
    (discardHeld s).fs = s.fs := rfl
@[simp] theorem discardHeld_sf (s : State) :
    (discardHeld s).sf = s.sf := rfl
@[simp] theorem discardHeld_map (s : State) :
    (discardHeld s).map = s.map := rfl
@[simp] theorem discardHeld_prof (s : State) :
    (discardHeld s).prof = s.prof := rfl
@[simp] theorem discardHeld_cap (s : State) :
    (discardHeld s).cap = s.cap := rfl
@[simp] theorem discardHeld_queue (s : State) :
    (discardHeld s).queue = s.queue := rfl
@[simp] theorem discardHeld_port (s : State) :
    (discardHeld s).port = s.port := rfl
@[simp] theorem discardHeld_host (s : State) :
    (discardHeld s).host = s.host := rfl
@[simp] theorem discardHeld_order (s : State) :
    (discardHeld s).order = s.order := rfl
@[simp] theorem discardHeld_pending (s : State) :
    (discardHeld s).pending = s.pending := rfl

@[simp] theorem discardHeld_ev_latchedEnable (s : State) :
    (discardHeld s).ev.latchedEnable = s.ev.latchedEnable := rfl
@[simp] theorem discardHeld_ev_levelEnable (s : State) :
    (discardHeld s).ev.levelEnable = s.ev.levelEnable := rfl
@[simp] theorem discardHeld_ev_masterEnable (s : State) :
    (discardHeld s).ev.masterEnable = s.ev.masterEnable := rfl
@[simp] theorem discardHeld_ev_polarity (s : State) :
    (discardHeld s).ev.polarity = s.ev.polarity := rfl
@[simp] theorem discardHeld_ev_drive (s : State) :
    (discardHeld s).ev.drive = s.ev.drive := rfl
@[simp] theorem discardHeld_ev_recordMask (s : State) :
    (discardHeld s).ev.recordMask = s.ev.recordMask := rfl
@[simp] theorem discardHeld_ev_marker0 (s : State) :
    (discardHeld s).ev.marker0 = s.ev.marker0 := rfl
@[simp] theorem discardHeld_ev_marker1 (s : State) :
    (discardHeld s).ev.marker1 = s.ev.marker1 := rfl
@[simp] theorem discardHeld_ev_marker2 (s : State) :
    (discardHeld s).ev.marker2 = s.ev.marker2 := rfl
@[simp] theorem discardHeld_ev_marker3 (s : State) :
    (discardHeld s).ev.marker3 = s.ev.marker3 := rfl
@[simp] theorem discardHeld_ev_hits (s : State) :
    (discardHeld s).ev.hits = s.ev.hits := rfl

@[simp] theorem interruptFrame_resetAsserted (s : State) :
    (interruptFrame s).resetAsserted = s.resetAsserted := rfl
@[simp] theorem interruptFrame_run (s : State) :
    (interruptFrame s).run = s.run := rfl
@[simp] theorem interruptFrame_fmt (s : State) :
    (interruptFrame s).fmt = s.fmt := rfl
@[simp] theorem interruptFrame_clock (s : State) :
    (interruptFrame s).clock = s.clock := rfl
@[simp] theorem interruptFrame_fs (s : State) :
    (interruptFrame s).fs = s.fs := rfl
@[simp] theorem interruptFrame_sf (s : State) :
    (interruptFrame s).sf = s.sf := rfl
@[simp] theorem interruptFrame_map (s : State) :
    (interruptFrame s).map = s.map := rfl
@[simp] theorem interruptFrame_prof (s : State) :
    (interruptFrame s).prof = s.prof := rfl
@[simp] theorem interruptFrame_queue (s : State) :
    (interruptFrame s).queue = s.queue := rfl
@[simp] theorem interruptFrame_port (s : State) :
    (interruptFrame s).port = s.port := rfl
@[simp] theorem interruptFrame_host (s : State) :
    (interruptFrame s).host = s.host := rfl
@[simp] theorem interruptFrame_order (s : State) :
    (interruptFrame s).order = s.order := rfl
@[simp] theorem interruptFrame_pending (s : State) :
    (interruptFrame s).pending = s.pending := rfl

@[simp] theorem settleRoute_resetAsserted (s : State) :
    (settleRoute s).resetAsserted = s.resetAsserted := rfl
@[simp] theorem settleRoute_run (s : State) :
    (settleRoute s).run = s.run := rfl
@[simp] theorem settleRoute_fmt (s : State) :
    (settleRoute s).fmt = s.fmt := rfl
@[simp] theorem settleRoute_clock (s : State) :
    (settleRoute s).clock = s.clock := rfl
@[simp] theorem settleRoute_fs (s : State) :
    (settleRoute s).fs = s.fs := rfl
@[simp] theorem settleRoute_sf (s : State) :
    (settleRoute s).sf = s.sf := rfl
@[simp] theorem settleRoute_map (s : State) :
    (settleRoute s).map = s.map := rfl
@[simp] theorem settleRoute_prof (s : State) :
    (settleRoute s).prof = s.prof := rfl
@[simp] theorem settleRoute_dec (s : State) :
    (settleRoute s).dec = s.dec := rfl
@[simp] theorem settleRoute_chan (s : State) :
    (settleRoute s).chan = s.chan := rfl
@[simp] theorem settleRoute_cap (s : State) :
    (settleRoute s).cap = s.cap := rfl
@[simp] theorem settleRoute_ev (s : State) :
    (settleRoute s).ev = s.ev := rfl
@[simp] theorem settleRoute_host (s : State) :
    (settleRoute s).host = s.host := rfl
@[simp] theorem settleRoute_order (s : State) :
    (settleRoute s).order = s.order := rfl
@[simp] theorem settleRoute_pending (s : State) :
    (settleRoute s).pending = s.pending := rfl

@[simp] theorem settleRoute_queue_store (s : State) :
    (settleRoute s).queue.store = s.queue.store := rfl
@[simp] theorem settleRoute_queue_consumed (s : State) :
    (settleRoute s).queue.consumed = s.queue.consumed := rfl
@[simp] theorem settleRoute_queue_begun (s : State) :
    (settleRoute s).queue.begun = s.queue.begun := rfl
@[simp] theorem settleRoute_queue_gapPending (s : State) :
    (settleRoute s).queue.gapPending = s.queue.gapPending := rfl
@[simp] theorem settleRoute_queue_dropped (s : State) :
    (settleRoute s).queue.dropped = s.queue.dropped := rfl
@[simp] theorem settleRoute_queue_threshold (s : State) :
    (settleRoute s).queue.threshold = s.queue.threshold := rfl
@[simp] theorem settleRoute_queue_requested (s : State) :
    (settleRoute s).queue.requested = s.queue.requested := rfl

@[simp] theorem driveBus_resetAsserted (w : Word) (s : State) :
    (driveBus w s).resetAsserted = s.resetAsserted := rfl
@[simp] theorem driveBus_run (w : Word) (s : State) :
    (driveBus w s).run = s.run := rfl
@[simp] theorem driveBus_fmt (w : Word) (s : State) :
    (driveBus w s).fmt = s.fmt := rfl
@[simp] theorem driveBus_clock (w : Word) (s : State) :
    (driveBus w s).clock = s.clock := rfl
@[simp] theorem driveBus_fs (w : Word) (s : State) :
    (driveBus w s).fs = s.fs := rfl
@[simp] theorem driveBus_sf (w : Word) (s : State) :
    (driveBus w s).sf = s.sf := rfl
@[simp] theorem driveBus_map (w : Word) (s : State) :
    (driveBus w s).map = s.map := rfl
@[simp] theorem driveBus_prof (w : Word) (s : State) :
    (driveBus w s).prof = s.prof := rfl
@[simp] theorem driveBus_dec (w : Word) (s : State) :
    (driveBus w s).dec = s.dec := rfl
@[simp] theorem driveBus_chan (w : Word) (s : State) :
    (driveBus w s).chan = s.chan := rfl
@[simp] theorem driveBus_cap (w : Word) (s : State) :
    (driveBus w s).cap = s.cap := rfl
@[simp] theorem driveBus_queue (w : Word) (s : State) :
    (driveBus w s).queue = s.queue := rfl
@[simp] theorem driveBus_port (w : Word) (s : State) :
    (driveBus w s).port = s.port := rfl
@[simp] theorem driveBus_ev (w : Word) (s : State) :
    (driveBus w s).ev = s.ev := rfl
@[simp] theorem driveBus_order (w : Word) (s : State) :
    (driveBus w s).order = s.order := rfl
@[simp] theorem driveBus_pending (w : Word) (s : State) :
    (driveBus w s).pending = s.pending := rfl

@[simp] theorem setIndex_resetAsserted (k : Nat) (s : State) :
    (setIndex k s).resetAsserted = s.resetAsserted := rfl
@[simp] theorem setIndex_run (k : Nat) (s : State) :
    (setIndex k s).run = s.run := rfl
@[simp] theorem setIndex_fmt (k : Nat) (s : State) :
    (setIndex k s).fmt = s.fmt := rfl
@[simp] theorem setIndex_clock (k : Nat) (s : State) :
    (setIndex k s).clock = s.clock := rfl
@[simp] theorem setIndex_fs (k : Nat) (s : State) :
    (setIndex k s).fs = s.fs := rfl
@[simp] theorem setIndex_sf (k : Nat) (s : State) :
    (setIndex k s).sf = s.sf := rfl
@[simp] theorem setIndex_map (k : Nat) (s : State) :
    (setIndex k s).map = s.map := rfl
@[simp] theorem setIndex_prof (k : Nat) (s : State) :
    (setIndex k s).prof = s.prof := rfl
@[simp] theorem setIndex_dec (k : Nat) (s : State) :
    (setIndex k s).dec = s.dec := rfl
@[simp] theorem setIndex_cap (k : Nat) (s : State) :
    (setIndex k s).cap = s.cap := rfl
@[simp] theorem setIndex_queue (k : Nat) (s : State) :
    (setIndex k s).queue = s.queue := rfl
@[simp] theorem setIndex_port (k : Nat) (s : State) :
    (setIndex k s).port = s.port := rfl
@[simp] theorem setIndex_ev (k : Nat) (s : State) :
    (setIndex k s).ev = s.ev := rfl
@[simp] theorem setIndex_order (k : Nat) (s : State) :
    (setIndex k s).order = s.order := rfl
@[simp] theorem setIndex_pending (k : Nat) (s : State) :
    (setIndex k s).pending = s.pending := rfl

/-! ### Frame starts and losses of timing -/

@[simp] theorem startFrame_resetAsserted (fs : FrameSync) (o : Int) (b : Bool) (es : List Event) (s : State) :
    (startFrame fs o b es s).resetAsserted = s.resetAsserted := by simp [startFrame]
@[simp] theorem startFrame_run (fs : FrameSync) (o : Int) (b : Bool) (es : List Event) (s : State) :
    (startFrame fs o b es s).run = s.run := by simp [startFrame]
@[simp] theorem startFrame_fmt (fs : FrameSync) (o : Int) (b : Bool) (es : List Event) (s : State) :
    (startFrame fs o b es s).fmt = s.fmt := by simp [startFrame]
@[simp] theorem startFrame_clock (fs : FrameSync) (o : Int) (b : Bool) (es : List Event) (s : State) :
    (startFrame fs o b es s).clock = s.clock := by simp [startFrame]
@[simp] theorem startFrame_prof (fs : FrameSync) (o : Int) (b : Bool) (es : List Event) (s : State) :
    (startFrame fs o b es s).prof = s.prof := by simp [startFrame]
@[simp] theorem startFrame_dec (fs : FrameSync) (o : Int) (b : Bool) (es : List Event) (s : State) :
    (startFrame fs o b es s).dec = s.dec := by simp [startFrame]
@[simp] theorem startFrame_chan (fs : FrameSync) (o : Int) (b : Bool) (es : List Event) (s : State) :
    (startFrame fs o b es s).chan = s.chan := by simp [startFrame]
@[simp] theorem startFrame_host (fs : FrameSync) (o : Int) (b : Bool) (es : List Event) (s : State) :
    (startFrame fs o b es s).host = s.host := by simp [startFrame]
@[simp] theorem startFrame_pending (fs : FrameSync) (o : Int) (b : Bool) (es : List Event) (s : State) :
    (startFrame fs o b es s).pending = s.pending := by simp [startFrame]

@[simp] theorem startFrame_fs (fs : FrameSync) (o : Int) (b : Bool) (es : List Event) (s : State) :
    (startFrame fs o b es s).fs = fs := by simp [startFrame]

@[simp] theorem enterSearch_resetAsserted (es : List Event) (s : State) :
    (enterSearch es s).resetAsserted = s.resetAsserted := by simp [enterSearch]
@[simp] theorem enterSearch_run (es : List Event) (s : State) :
    (enterSearch es s).run = s.run := by simp [enterSearch]
@[simp] theorem enterSearch_fmt (es : List Event) (s : State) :
    (enterSearch es s).fmt = s.fmt := by simp [enterSearch]
@[simp] theorem enterSearch_clock (es : List Event) (s : State) :
    (enterSearch es s).clock = s.clock := by simp [enterSearch]
@[simp] theorem enterSearch_prof (es : List Event) (s : State) :
    (enterSearch es s).prof = s.prof := by simp [enterSearch]
@[simp] theorem enterSearch_dec (es : List Event) (s : State) :
    (enterSearch es s).dec = s.dec := by simp [enterSearch]
@[simp] theorem enterSearch_chan (es : List Event) (s : State) :
    (enterSearch es s).chan = s.chan := by simp [enterSearch]
@[simp] theorem enterSearch_cap (es : List Event) (s : State) :
    (enterSearch es s).cap = s.cap := by simp [enterSearch]
@[simp] theorem enterSearch_host (es : List Event) (s : State) :
    (enterSearch es s).host = s.host := by simp [enterSearch]
@[simp] theorem enterSearch_pending (es : List Event) (s : State) :
    (enterSearch es s).pending = s.pending := by simp [enterSearch]

@[simp] theorem enterSearch_fs (es : List Event) (s : State) :
    (enterSearch es s).fs = s.fs.toSearch := by simp [enterSearch]

@[simp] theorem takeSwap_resetAsserted (s : State) :
    (takeSwap s).resetAsserted = s.resetAsserted := by simp [takeSwap]
@[simp] theorem takeSwap_run (s : State) :
    (takeSwap s).run = s.run := by simp [takeSwap]
@[simp] theorem takeSwap_fmt (s : State) :
    (takeSwap s).fmt = s.fmt := by simp [takeSwap]
@[simp] theorem takeSwap_clock (s : State) :
    (takeSwap s).clock = s.clock := by simp [takeSwap]
@[simp] theorem takeSwap_fs (s : State) :
    (takeSwap s).fs = s.fs := by simp [takeSwap]
@[simp] theorem takeSwap_sf (s : State) :
    (takeSwap s).sf = s.sf := by simp [takeSwap]
@[simp] theorem takeSwap_prof (s : State) :
    (takeSwap s).prof = s.prof := by simp [takeSwap]
@[simp] theorem takeSwap_dec (s : State) :
    (takeSwap s).dec = s.dec := by simp [takeSwap]
@[simp] theorem takeSwap_chan (s : State) :
    (takeSwap s).chan = s.chan := by simp [takeSwap]
@[simp] theorem takeSwap_cap (s : State) :
    (takeSwap s).cap = s.cap := by simp [takeSwap]
@[simp] theorem takeSwap_host (s : State) :
    (takeSwap s).host = s.host := by simp [takeSwap]
@[simp] theorem takeSwap_pending (s : State) :
    (takeSwap s).pending = s.pending := by simp [takeSwap]

/-! ### Word completion -/

@[simp] theorem applyDecode_resetAsserted (c : Nat) (d : DecodeEffect) (s : State) :
    (applyDecode c d s).resetAsserted = s.resetAsserted := rfl
@[simp] theorem applyDecode_run (c : Nat) (d : DecodeEffect) (s : State) :
    (applyDecode c d s).run = s.run := rfl
@[simp] theorem applyDecode_fmt (c : Nat) (d : DecodeEffect) (s : State) :
    (applyDecode c d s).fmt = s.fmt := rfl
@[simp] theorem applyDecode_clock (c : Nat) (d : DecodeEffect) (s : State) :
    (applyDecode c d s).clock = s.clock := rfl
@[simp] theorem applyDecode_fs (c : Nat) (d : DecodeEffect) (s : State) :
    (applyDecode c d s).fs = s.fs := rfl
@[simp] theorem applyDecode_sf (c : Nat) (d : DecodeEffect) (s : State) :
    (applyDecode c d s).sf = s.sf := rfl
@[simp] theorem applyDecode_map (c : Nat) (d : DecodeEffect) (s : State) :
    (applyDecode c d s).map = s.map := rfl
@[simp] theorem applyDecode_prof (c : Nat) (d : DecodeEffect) (s : State) :
    (applyDecode c d s).prof = s.prof := rfl
@[simp] theorem applyDecode_cap (c : Nat) (d : DecodeEffect) (s : State) :
    (applyDecode c d s).cap = s.cap := rfl
@[simp] theorem applyDecode_queue (c : Nat) (d : DecodeEffect) (s : State) :
    (applyDecode c d s).queue = s.queue := rfl
@[simp] theorem applyDecode_port (c : Nat) (d : DecodeEffect) (s : State) :
    (applyDecode c d s).port = s.port := rfl
@[simp] theorem applyDecode_host (c : Nat) (d : DecodeEffect) (s : State) :
    (applyDecode c d s).host = s.host := rfl
@[simp] theorem applyDecode_order (c : Nat) (d : DecodeEffect) (s : State) :
    (applyDecode c d s).order = s.order := rfl
@[simp] theorem applyDecode_pending (c : Nat) (d : DecodeEffect) (s : State) :
    (applyDecode c d s).pending = s.pending := rfl

@[simp] theorem decodeWord_resetAsserted (i : WordInfo) (s : State) :
    (decodeWord i s).resetAsserted = s.resetAsserted := by
  unfold decodeWord; split <;> rfl
@[simp] theorem decodeWord_run (i : WordInfo) (s : State) :
    (decodeWord i s).run = s.run := by
  unfold decodeWord; split <;> rfl
@[simp] theorem decodeWord_fmt (i : WordInfo) (s : State) :
    (decodeWord i s).fmt = s.fmt := by
  unfold decodeWord; split <;> rfl
@[simp] theorem decodeWord_clock (i : WordInfo) (s : State) :
    (decodeWord i s).clock = s.clock := by
  unfold decodeWord; split <;> rfl
@[simp] theorem decodeWord_fs (i : WordInfo) (s : State) :
    (decodeWord i s).fs = s.fs := by
  unfold decodeWord; split <;> rfl
@[simp] theorem decodeWord_sf (i : WordInfo) (s : State) :
    (decodeWord i s).sf = s.sf := by
  unfold decodeWord; split <;> rfl
@[simp] theorem decodeWord_map (i : WordInfo) (s : State) :
    (decodeWord i s).map = s.map := by
  unfold decodeWord; split <;> rfl
@[simp] theorem decodeWord_prof (i : WordInfo) (s : State) :
    (decodeWord i s).prof = s.prof := by
  unfold decodeWord; split <;> rfl
@[simp] theorem decodeWord_cap (i : WordInfo) (s : State) :
    (decodeWord i s).cap = s.cap := by
  unfold decodeWord; split <;> rfl
@[simp] theorem decodeWord_queue (i : WordInfo) (s : State) :
    (decodeWord i s).queue = s.queue := by
  unfold decodeWord; split <;> rfl
@[simp] theorem decodeWord_port (i : WordInfo) (s : State) :
    (decodeWord i s).port = s.port := by
  unfold decodeWord; split <;> rfl
@[simp] theorem decodeWord_host (i : WordInfo) (s : State) :
    (decodeWord i s).host = s.host := by
  unfold decodeWord; split <;> rfl
@[simp] theorem decodeWord_order (i : WordInfo) (s : State) :
    (decodeWord i s).order = s.order := by
  unfold decodeWord; split <;> rfl
@[simp] theorem decodeWord_pending (i : WordInfo) (s : State) :
    (decodeWord i s).pending = s.pending := by
  unfold decodeWord; split <;> rfl

@[simp] theorem reactToWord_resetAsserted (i : WordInfo) (s : State) :
    (reactToWord i s).resetAsserted = s.resetAsserted := rfl
@[simp] theorem reactToWord_run (i : WordInfo) (s : State) :
    (reactToWord i s).run = s.run := rfl
@[simp] theorem reactToWord_fmt (i : WordInfo) (s : State) :
    (reactToWord i s).fmt = s.fmt := rfl
@[simp] theorem reactToWord_clock (i : WordInfo) (s : State) :
    (reactToWord i s).clock = s.clock := rfl
@[simp] theorem reactToWord_fs (i : WordInfo) (s : State) :
    (reactToWord i s).fs = s.fs := rfl
@[simp] theorem reactToWord_map (i : WordInfo) (s : State) :
    (reactToWord i s).map = s.map := rfl
@[simp] theorem reactToWord_prof (i : WordInfo) (s : State) :
    (reactToWord i s).prof = s.prof := rfl
@[simp] theorem reactToWord_dec (i : WordInfo) (s : State) :
    (reactToWord i s).dec = s.dec := rfl
@[simp] theorem reactToWord_chan (i : WordInfo) (s : State) :
    (reactToWord i s).chan = s.chan := rfl
@[simp] theorem reactToWord_queue (i : WordInfo) (s : State) :
    (reactToWord i s).queue = s.queue := rfl
@[simp] theorem reactToWord_port (i : WordInfo) (s : State) :
    (reactToWord i s).port = s.port := rfl
@[simp] theorem reactToWord_host (i : WordInfo) (s : State) :
    (reactToWord i s).host = s.host := rfl
@[simp] theorem reactToWord_order (i : WordInfo) (s : State) :
    (reactToWord i s).order = s.order := rfl
@[simp] theorem reactToWord_pending (i : WordInfo) (s : State) :
    (reactToWord i s).pending = s.pending := rfl

@[simp] theorem discardAtWpf_resetAsserted (p : Nat) (s : State) :
    (discardAtWpf p s).resetAsserted = s.resetAsserted := by
  unfold discardAtWpf; split <;> rfl
@[simp] theorem discardAtWpf_run (p : Nat) (s : State) :
    (discardAtWpf p s).run = s.run := by
  unfold discardAtWpf; split <;> rfl
@[simp] theorem discardAtWpf_fmt (p : Nat) (s : State) :
    (discardAtWpf p s).fmt = s.fmt := by
  unfold discardAtWpf; split <;> rfl
@[simp] theorem discardAtWpf_clock (p : Nat) (s : State) :
    (discardAtWpf p s).clock = s.clock := by
  unfold discardAtWpf; split <;> rfl
@[simp] theorem discardAtWpf_fs (p : Nat) (s : State) :
    (discardAtWpf p s).fs = s.fs := by
  unfold discardAtWpf; split <;> rfl
@[simp] theorem discardAtWpf_sf (p : Nat) (s : State) :
    (discardAtWpf p s).sf = s.sf := by
  unfold discardAtWpf; split <;> rfl
@[simp] theorem discardAtWpf_map (p : Nat) (s : State) :
    (discardAtWpf p s).map = s.map := by
  unfold discardAtWpf; split <;> rfl
@[simp] theorem discardAtWpf_prof (p : Nat) (s : State) :
    (discardAtWpf p s).prof = s.prof := by
  unfold discardAtWpf; split <;> rfl
@[simp] theorem discardAtWpf_cap (p : Nat) (s : State) :
    (discardAtWpf p s).cap = s.cap := by
  unfold discardAtWpf; split <;> rfl
@[simp] theorem discardAtWpf_queue (p : Nat) (s : State) :
    (discardAtWpf p s).queue = s.queue := by
  unfold discardAtWpf; split <;> rfl
@[simp] theorem discardAtWpf_port (p : Nat) (s : State) :
    (discardAtWpf p s).port = s.port := by
  unfold discardAtWpf; split <;> rfl
@[simp] theorem discardAtWpf_host (p : Nat) (s : State) :
    (discardAtWpf p s).host = s.host := by
  unfold discardAtWpf; split <;> rfl
@[simp] theorem discardAtWpf_order (p : Nat) (s : State) :
    (discardAtWpf p s).order = s.order := by
  unfold discardAtWpf; split <;> rfl
@[simp] theorem discardAtWpf_pending (p : Nat) (s : State) :
    (discardAtWpf p s).pending = s.pending := by
  unfold discardAtWpf; split <;> rfl

@[simp] theorem wordComplete_resetAsserted (p : Nat) (s : State) :
    (wordComplete p s).resetAsserted = s.resetAsserted := by simp [wordComplete]
@[simp] theorem wordComplete_run (p : Nat) (s : State) :
    (wordComplete p s).run = s.run := by simp [wordComplete]
@[simp] theorem wordComplete_fmt (p : Nat) (s : State) :
    (wordComplete p s).fmt = s.fmt := by simp [wordComplete]
@[simp] theorem wordComplete_clock (p : Nat) (s : State) :
    (wordComplete p s).clock = s.clock := by simp [wordComplete]
@[simp] theorem wordComplete_fs (p : Nat) (s : State) :
    (wordComplete p s).fs = s.fs := by simp [wordComplete]
@[simp] theorem wordComplete_map (p : Nat) (s : State) :
    (wordComplete p s).map = s.map := by simp [wordComplete]
@[simp] theorem wordComplete_prof (p : Nat) (s : State) :
    (wordComplete p s).prof = s.prof := by simp [wordComplete]
@[simp] theorem wordComplete_host (p : Nat) (s : State) :
    (wordComplete p s).host = s.host := by simp [wordComplete]
@[simp] theorem wordComplete_pending (p : Nat) (s : State) :
    (wordComplete p s).pending = s.pending := by simp [wordComplete]

@[simp] theorem deliverWord_resetAsserted (s : State) :
    (deliverWord s).resetAsserted = s.resetAsserted := by
  unfold deliverWord; split
  · split <;> simp
  · rfl
@[simp] theorem deliverWord_run (s : State) :
    (deliverWord s).run = s.run := by
  unfold deliverWord; split
  · split <;> simp
  · rfl
@[simp] theorem deliverWord_fmt (s : State) :
    (deliverWord s).fmt = s.fmt := by
  unfold deliverWord; split
  · split <;> simp
  · rfl
@[simp] theorem deliverWord_clock (s : State) :
    (deliverWord s).clock = s.clock := by
  unfold deliverWord; split
  · split <;> simp
  · rfl
@[simp] theorem deliverWord_fs (s : State) :
    (deliverWord s).fs = s.fs := by
  unfold deliverWord; split
  · split <;> simp
  · rfl
@[simp] theorem deliverWord_map (s : State) :
    (deliverWord s).map = s.map := by
  unfold deliverWord; split
  · split <;> simp
  · rfl
@[simp] theorem deliverWord_prof (s : State) :
    (deliverWord s).prof = s.prof := by
  unfold deliverWord; split
  · split <;> simp
  · rfl
@[simp] theorem deliverWord_host (s : State) :
    (deliverWord s).host = s.host := by
  unfold deliverWord; split
  · split <;> simp
  · rfl
@[simp] theorem deliverWord_pending (s : State) :
    (deliverWord s).pending = s.pending := by
  unfold deliverWord; split
  · split <;> simp
  · rfl

/-! ### One bit -/

@[simp] theorem syncBit_resetAsserted (bit : Bool) (s : State) :
    (syncBit bit s).resetAsserted = s.resetAsserted := by
  unfold syncBit
  cases s.fs.sync <;> simp only [searchBit, checkInCheck, checkInLock, syncFound, syncPass, syncMiss]
  all_goals (repeat' split) <;> simp
@[simp] theorem syncBit_run (bit : Bool) (s : State) :
    (syncBit bit s).run = s.run := by
  unfold syncBit
  cases s.fs.sync <;> simp only [searchBit, checkInCheck, checkInLock, syncFound, syncPass, syncMiss]
  all_goals (repeat' split) <;> simp
@[simp] theorem syncBit_fmt (bit : Bool) (s : State) :
    (syncBit bit s).fmt = s.fmt := by
  unfold syncBit
  cases s.fs.sync <;> simp only [searchBit, checkInCheck, checkInLock, syncFound, syncPass, syncMiss]
  all_goals (repeat' split) <;> simp
@[simp] theorem syncBit_clock (bit : Bool) (s : State) :
    (syncBit bit s).clock = s.clock := by
  unfold syncBit
  cases s.fs.sync <;> simp only [searchBit, checkInCheck, checkInLock, syncFound, syncPass, syncMiss]
  all_goals (repeat' split) <;> simp
@[simp] theorem acceptBit_resetAsserted (level : Bool) (s : State) :
    (acceptBit level s).resetAsserted = s.resetAsserted := by simp [acceptBit]
@[simp] theorem acceptBit_run (level : Bool) (s : State) :
    (acceptBit level s).run = s.run := by simp [acceptBit]
@[simp] theorem acceptBit_fmt (level : Bool) (s : State) :
    (acceptBit level s).fmt = s.fmt := by simp [acceptBit]
/-- A bit leaves the Clock Monitor as its edge left it, whatever the Frame Synchronizer did (R8). -/
@[simp] theorem acceptBit_clock (level : Bool) (s : State) :
    (acceptBit level s).clock = .edge s.clockExpires s.fmt.clklossUs := by simp [acceptBit]

end Sys2Proof.Machine
end

