-- ==== Sys2Proof/Laws/Queue.lean ====
section
/-! SUPPORT. What each shared operation can do, said once: the offer of a record, the order of the offers
of one happening, a host error, a pending route change, the discard of held parts. -/

namespace Sys2Proof.Machine

/-! ### Offers -/

/-- An offer that fits is admitted whole, behind a GAP record when drops are pending (R134, R135). -/
theorem offer_admitted (r : Rec) (s : State) (h : s.queue.admits r.length = true) :
    offer r s = { s with
      queue := { s.queue with
        store := s.queue.store ++
          (if s.queue.gapPending = 0 then [r] else [gapRecord s.queue.gapPending, r])
        gapPending := 0 }
      port := { s.port with mode := if s.port.mode = .idle then .sending else s.port.mode } } := by
  simp [offer, RecordQueue.offered, RecordQueue.appended, OutputPort.onAdmission, EventUnit.latchIf, h]

/-- An offer that does not fit is dropped whole (R136). -/
theorem offer_dropped (r : Rec) (s : State) (h : s.queue.admits r.length = false) :
    offer r s = { s with
      queue := { s.queue with
        gapPending := stopInc s.queue.gapPending, dropped := stopInc s.queue.dropped }
      ev := { s.ev with latched := s.ev.latched ||| LatchedBit.queueDrop.mask } } := by
  simp [offer, RecordQueue.offered, RecordQueue.drop, OutputPort.onAdmission, EventUnit.latchIf, h]

@[simp] theorem offerAll_nil (s : State) : offerAll [] s = s := rfl

@[simp] theorem offerAll_cons (r : Rec) (rs : List Rec) (s : State) :
    offerAll (r :: rs) s = offerAll rs (offer r s) := rfl

theorem offerAll_append (as bs : List Rec) (s : State) :
    offerAll (as ++ bs) s = offerAll bs (offerAll as s) := List.foldl_append

/-- The words of a store with records appended to it. -/
theorem store_words_append (as bs : List Rec) :
    ((as ++ bs).map List.length).sum = (as.map List.length).sum + (bs.map List.length).sum := by
  simp

/-- All that offers can change: the store, the pending-gap count and DROPPED, the port's state, and the
latched bits; the head's progress, the threshold and the route stay (R134 to R136, R152). -/
theorem offerAll_says (rs : List Rec) (s : State) :
    ∃ store gap dropped mode latched, offerAll rs s = { s with
      queue := { s.queue with store := store, gapPending := gap, dropped := dropped }
      port := { s.port with mode := mode }
      ev := { s.ev with latched := latched } } := by
  induction rs generalizing s with
  | nil => exact ⟨_, _, _, _, _, rfl⟩
  | cons r rs ih =>
    obtain ⟨store, gap, dropped, mode, latched, h⟩ := ih (offer r s)
    refine ⟨store, gap, dropped, mode, latched, ?_⟩
    rw [offerAll_cons, h]
    cases hr : s.queue.admits r.length
    · rw [offer_dropped r s hr]
    · rw [offer_admitted r s hr]

/-- Offers leave the store's older records where they are (R134). -/
theorem offerAll_store (rs : List Rec) (s : State) :
    ∃ new, (offerAll rs s).queue.store = s.queue.store ++ new := by
  induction rs generalizing s with
  | nil => exact ⟨[], by simp⟩
  | cons r rs ih =>
    obtain ⟨new, h⟩ := ih (offer r s)
    cases hr : s.queue.admits r.length
    · rw [offer_dropped r s hr] at h
      exact ⟨new, by rw [offerAll_cons, offer_dropped r s hr, h]⟩
    · rw [offer_admitted r s hr] at h
      refine ⟨(if s.queue.gapPending = 0 then [r] else [gapRecord s.queue.gapPending, r]) ++ new, ?_⟩
      rw [offerAll_cons, offer_admitted r s hr, h, List.append_assoc]

/-- A counter that stops at FFFFh (0.5 "Counters"). -/
theorem stopInc_toNat (c : Word) : (stopInc c).toNat = min 0xFFFF (c.toNat + 1) := by
  have hc := c.isLt
  unfold stopInc
  split
  · rename_i h
    rw [h]
    rfl
  · rename_i h
    have : c.toNat ≠ 0xFFFF := fun e => h (BitVec.eq_of_toNat_eq e)
    have one : BitVec.toNat (1 : Word) = 1 := rfl
    rw [BitVec.toNat_add, one]
    omega

/-- A counter that stops at FFFFh, increased n times. -/
theorem stopAdd_toNat (c : Word) (n : Nat) : (stopAdd c n).toNat = min 0xFFFF (c.toNat + n) := by
  simp only [stopAdd, BitVec.toNat_ofNat]
  omega

/-! ### The order of the offers of one happening -/

@[simp] theorem weave_nil_right (n : Nat) (xs : List Rec) : weave n xs [] = xs := by
  cases xs <;> rfl

/-- A weave is the two lists' records, each once. -/
theorem weave_perm (n : Nat) (xs ys : List Rec) : (weave n xs ys).Perm (xs ++ ys) := by
  induction xs generalizing n ys with
  | nil => simp [weave]
  | cons x xs ih =>
    cases ys with
    | nil => simp
    | cons y ys =>
      simp only [weave]
      generalize Config.offeredBefore n % (ys.length + 2) = k
      calc (y :: ys).take k ++ x :: weave (n + 1) xs ((y :: ys).drop k)
          |>.Perm ((y :: ys).take k ++ x :: (xs ++ (y :: ys).drop k)) :=
            ((ih _ _).cons x).append_left _
        _ |>.Perm (x :: xs ++ ((y :: ys).take k ++ (y :: ys).drop k)) := by
            simp only [List.cons_append]
            refine List.perm_middle.trans (List.Perm.cons x ?_)
            rw [← List.append_assoc, ← List.append_assoc]
            exact List.perm_append_comm.append_right _
        _ |>.Perm (x :: xs ++ y :: ys) := by rw [List.take_append_drop]

/-- A weave keeps the order of its first list. -/
theorem weave_sublist_left (n : Nat) (xs ys : List Rec) : xs.Sublist (weave n xs ys) := by
  induction xs generalizing n ys with
  | nil => simp
  | cons x xs ih =>
    cases ys with
    | nil => simp
    | cons y ys =>
      exact ((ih _ _).cons_cons x).trans (List.sublist_append_right _ _)

/-- A weave keeps the order of its second list. -/
theorem weave_sublist_right (n : Nat) (xs ys : List Rec) : ys.Sublist (weave n xs ys) := by
  induction xs generalizing n ys with
  | nil => simp [weave]
  | cons x xs ih =>
    cases ys with
    | nil => simp
    | cons y ys =>
      simp only [weave]
      generalize Config.offeredBefore n % (ys.length + 2) = k
      conv => lhs; rw [← List.take_append_drop k (y :: ys)]
      exact (List.Sublist.refl _).append ((ih _ _).cons x)

/-- A happening at which no block offers a record changes nothing through the queue. -/
theorem offerBlocks_none (groups : List (List Rec)) (s : State) (h : groups.flatten = []) :
    offerBlocks groups s = s := by
  have nothing : ∀ (n : Nat), weaveAll n groups = [] := by
    induction groups with
    | nil => intro n; rfl
    | cons g gs ih =>
      simp only [List.flatten_cons, List.append_eq_nil_iff] at h
      intro n
      simp [weaveAll, h.1, ih h.2]
  simp [offerBlocks, nothing, h]

/-! ### Host errors, the route, held parts -/

/-- A host error sets HOST_ERROR, counts, and is recorded when it is the first (R177). -/
theorem hostError_says (e : HostError) (s : State) :
    (hostError e s).ev.latched = s.ev.latched ||| LatchedBit.hostError.mask
      ∧ (hostError e s).host.errCount = stopInc s.host.errCount
      ∧ (hostError e s).host.errCode = some (s.host.errCode.getD e) := ⟨rfl, rfl, rfl⟩

/-- A route change that cannot be taken leaves the machine as it is (R145). -/
theorem settleRoute_waits (s : State) (h : s.queue.takesRoute = false) : settleRoute s = s := by
  simp [settleRoute, RecordQueue.settled, OutputPort.settled, h]

/-- A route change that is taken makes the requested route active and moves the port (R145, R151). -/
theorem settleRoute_takes (s : State) (h : s.queue.takesRoute = true) :
    settleRoute s = { s with
      queue := { s.queue with active := s.queue.requested }
      port := s.port.routed s.queue.requested (decide (s.queue.store = [])) } := by
  simp [settleRoute, RecordQueue.settled, OutputPort.settled, h]

/-- With no upper part held the discard changes nothing but the form of the entries. -/
theorem discardHeld_none (s : State) (h : s.chan.heldCount = 0) :
    (discardHeld s).dec = { s.dec with joinFaults := stopAdd s.dec.joinFaults 0 }
      ∧ (discardHeld s).ev = s.ev := by
  simp [discardHeld, h, EventUnit.latchIf]

/-- A command is answered whether it is accepted or refused (R178). -/
theorem answered_refuseIf (code : BitVec 8) (refused : Bool) (result : CmdResult)
    (effect : State → State) (s : State) :
    answered code (refuseIf refused result effect s) =
      if refused then { s with host := { s.host with cmdCode := code, cmdResult := result } }
      else { effect s with
        host := { (effect s).host with cmdCode := code, cmdResult := .accepted } } := by
  cases refused <;> rfl

/-- With RESET# released a command that is not a read acts whole (R180). -/
theorem unlessReset_released (f : State → State) (s : State) (h : s.resetAsserted = false) :
    unlessReset f s = .next (f s) := by simp [unlessReset, h]

/-- With RESET# asserted a command that is not a read changes nothing (log 5). -/
theorem unlessReset_asserted (f : State → State) (s : State) (h : s.resetAsserted = true) :
    unlessReset f s = .next s := by simp [unlessReset, h]

end Sys2Proof.Machine
end

