-- ==== Sys2Proof/Tests/Slice0.lean ====
section
/-! SUPPORT. The model's own tests: the smoke test of WellFormed; at most two one-step tests for each
command, their expected results taken from the worked examples and the tables of spec/; and for every
obligation with hypotheses a witness that meets them, clause by clause. -/

namespace Sys2Proof.Tests

open Sys2Proof Sys2Proof.Machine

/-! ### WellFormed and the table's bits -/

theorem test_unnamed_code_that_names_start_is_refused :
    wellFormed (.unnamedCommandCode 0x0001) = false := by decide

theorem test_unnamed_code_0Bh_is_accepted : wellFormed (.unnamedCommandCode 0x000B) = true := by decide

theorem test_format_write_at_clkloss_is_refused :
    wellFormed (.formatRegisterWrite 0x14 0) = false := by decide

theorem test_register_write_at_cmd_is_refused : wellFormed (.registerWrite 0x01 0) = false := by decide

theorem test_no_word_spells_a_command : decodeTableWord 16 0x0001 = none := by decide

theorem test_fetch_word_changes_nothing :
    (State.reset.withFetchWord 16 0x0001).pending = [] := by decide

/-! ### The machine the tests start from -/

/-- The state after a command. -/
def after (c : Instr) (s : State) : State :=
  match exec c s with
  | .next t => t
  | .fault _ => s
  | .refused _ => s

/-- A state in RUN with a sync state, a format, the frame offset of the newest bit and a history. -/
def running (sync : SyncState) (f : Format) (offset : Nat) (history : BitVec 52) : State :=
  { run := .run
    fmt := f
    fs := { sync := sync, offset := offset, history := history, fill := 40
            decodedMark := sync.inLock, coastMark := decide (sync = .coast) } }

/-- The format of section 2.10: power-on with SLIP_WIN 1; the frame length is 536. -/
def format210 : Format := { slipWin := 1 }

/-- A short format: sync A7h of 8 bits, 3 words of 4 bits, SLIP_WIN 2; the frame length is 20. -/
def short : Format :=
  { syncLen := 8, syncPattern := 0xA7, wlen := 4, wpf := 3, slipWin := 2, tolCheck := 0, tolLock := 0 }

/-- The format of section 3.8. -/
def format38 : Format :=
  { depth := 4, sfidPos := 4, sfidWidth := 3, sfidDir := .down, sfidBase := 5, sfMiss := 2 }

/-- Profile 3 of section 5.8. -/
def profile58 : Profile :=
  { coding := .twos, fieldLsb := 1, fieldWidth := 12, parity := .odd, deadband := 4 }

/-- Channel 9 of section 5.8 with the upper part of frame 501 held. -/
def channel58 : ChannelEntry :=
  { notify := true, profile := 3, valid := true, value := 0xFFFFFED7, sampleCount := 41
    held := some { raw := 0x9D, failed := false } }

/-- A SAMPLE record and an EVENT record, as in section 8.9.1. -/
def recordA : Rec := [0x2005, 0x01F5, 0x0900, 0xFFFF, 0xFECF]
def recordB : Rec := [0x6004, 0x0002, 0x0001, 0x0000]

/-- The store of section 8.9.1 with `consumed` words of A popped. -/
def partlyRead (consumed : Nat) (requested : Route) : State :=
  { queue := { store := [recordA, recordB], consumed := consumed, requested := requested } }

/-- The port of section 9.7 with `consumed` words of the record sent. -/
def portSending (consumed : Nat) (inFlight : Option Nat) (begun : Bool) : State :=
  { queue := { store := [recordA], consumed := consumed, begun := begun, requested := .port
               active := .port }
    port := { mode := .sending, inFlight := inFlight, stallMs := 1, clk := some 4, frm := begun } }

/-- The port of section 9.7 in its pause after word 2, in the last period of the stall interval. -/
def portPaused : State :=
  { queue := { store := [recordA], consumed := 2, begun := true, requested := .port, active := .port }
    port := { mode := .paused, stall := .running 9999, stallMs := 1, clk := some 4, frm := true } }

/-- The Table Access Port at an index of a space. -/
def atTable (sp : Space) (k : Nat) : State := { host := { tspace := sp, tindex := k } }

/-- A table with one upper part held, in channel 9. -/
def holding : ChannelTable := { entries := [(9, channel58)] }

/-! ### One step each, from the examples and the tables -/

/-- R180: the pin is released while RESET# is asserted. -/
theorem test_reset_assert_releases_the_pin :
    (after .resetAssert { ev := { hits := 1, levelEnable := 0x20, masterEnable := true } }).intPin
      = .released := by decide

/-- R172: a read under RESET# drives nothing. -/
theorem test_reads_drive_nothing_under_reset :
    readRegister false 0x0F (after .resetAssert {}) = none := by decide

/-- Table 12-1, NOTE: the power-on EVENT_RECORD_MASK reads 00EFh. -/
theorem test_power_on_mask_reads_00EF :
    readRegister false 0x35 (after .resetRelease {}) = some 0x00EF := by decide

/-- R163: after the release QUEUE_EMPTY is set and the other five are clear. -/
theorem test_reset_release_level_status :
    (after .resetRelease (running .lock short 5 0)).levelStatus = 0b000010 := by decide

/-- Table 2-4, bit 1172: LOCK, FSN 2, a LOCK record. -/
theorem test_bit_1172_enters_lock :
    let s := running .check format210 558 (0xFAF320 / 2)
    let t := after (.bitArrival .rising false) { s with fs := { s.fs with goodCount := 1, fsn := 1 } }
    (t.fs.sync, t.fs.fsn, t.queue.store, t.ev.has .lockGained)
      = (.lock, 2, [[0x6004, 2, 1, 0]], true) := by decide

/-- Table 2-5, bit 2781: an offset pass at -1 out of COAST; RELOCK has a record, SLIP has none. -/
theorem test_bit_2781_relocks_with_a_slip :
    let s := running .coast format210 559 (0xFAF320 * 2)
    let t := after (.bitArrival .rising true) { s with fs := { s.fs with missCount := 1, fsn := 4 } }
    (t.fs.sync, t.fs.fsn, t.fs.slips, t.fs.offset, t.queue.store, t.ev.has .slip)
      = (.lock, 5, 1, 25, [[0x6004, 5, 3, 0]], true) := by decide

/-- R38 and Table 10-2: LOST with reason CLOCK (code 2) and FSN plus one. -/
theorem test_clock_loss_in_lock :
    let t := after .clockLoss { running .lock short 5 0 with
      clock := { present := true, timer := .running 9999 } }
    (t.fs.sync, t.fs.fill, t.clock.present, t.queue.store)
      = (.search, 0, false, [[0x6004, 1, 4, 2]]) := by decide

/-- A state in RUN with the format of section 3.8 and a lock, whose loss timer expires in this period. -/
def dueInLock (offset : Nat) : State :=
  { running .lock format38 offset 5 with
    clock := { present := true, timer := .running 9999 }
    sf := { state := .search } }

/-- R10: an edge taken first restarts the timer; R57: the clock loss follows the bit that completes word 4,
SFID_POS, at offset 55 (section 3.8), and not the bit before it. -/
theorem test_edge_taken_first_leaves_a_clock_loss_to_a_reading :
    let t := after .clockLoss (after (.bitArrival .rising true) (dueInLock 53))
    let u := after .clockLoss (after (.bitArrival .rising true) (dueInLock 54))
    (t.clock.present, t.clock.timer, t.ev.has .clockLoss) = (true, .running 0, false)
      ∧ (u.clock.present, u.fs.sync, u.ev.has .clockLoss) = (false, .search, true) := by decide

/-- R72, R73: the list of length 0 that position 3 names is LIST_EMPTY at 3. -/
theorem test_validation_end_names_the_position :
    let t := after .validationEnd
      { map := { bankB := { map := [(3, 0x8000)] }, swap := .validating } }
    (t.map.swap, t.map.fault, t.ev.has .swapFailed)
      = (.editable, { bank := .b, location := 3, reason := .listEmpty }, true) := by decide

/-- R74: in IDLE a pass takes the swap at once. -/
theorem test_validation_end_in_idle_swaps :
    let t := after .validationEnd { map := { swap := .validating } }
    (t.map.active, t.queue.store) = (.b, [[0x6004, 0, 8, 1]]) := by decide +kernel

/-- Table 9-2, edge 1033: PORT_STALL is set and the pause goes on. -/
theorem test_stall_expiry_sets_port_stall :
    let t := after .portStallExpiry portPaused
    (t.ev.has .portStall, t.port.mode, t.port.stall) = (true, .paused, .stopped) := by decide

/-- Table 9-2, edge 1: RO_FRM rises with header bit 15. -/
theorem test_edge_1_begins_the_record :
    let t := after (.portRecordBegin true) (portSending 0 none false)
    (t.roFrm, t.roDat, t.queue.headRemain) = (true, false, 5) := by decide

/-- Table 9-2, edge 33: word 2 is consumed, the port pauses with RO_FRM high. -/
theorem test_edge_33_pauses :
    let t := after (.portWordBoundary false) (portSending 1 (some 15) true)
    (t.port.mode, t.roFrm, t.queue.count, t.port.stall) = (.paused, true, 3, .running 0) := by decide

/-- Table 9-2, edge 1581: the record is removed and the port is IDLE. -/
theorem test_edge_1581_ends_the_record :
    let t := after (.portWordBoundary true) (portSending 4 (some 15) true)
    (t.port.mode, t.roFrm, t.queue.count, t.queue.records) = (.idle, false, 0, 0) := by decide

/-- Table 9-2, edge 1533: word 3 begins; 0900h has bit 15 clear. -/
theorem test_edge_1533_ends_the_pause :
    let t := after .portPauseEnd portPaused
    (t.port.mode, t.roDat, t.port.stall, t.port.inFlight) = (.sending, false, .stopped, some 0) := by
  decide

/-- R153: bit 13 of the header 2005h is 1. -/
theorem test_bit_drive_sends_bit_13 :
    (after .portBitDrive (portSending 0 (some 1) true)).roDat = true := by decide

/-- The format of section 1.7 with an SFID_WIDTH. -/
def format17 (width : Nat) : Format :=
  { syncLen := 16, syncPattern := 0xE4B1, wlen := 10, wpf := 128, depth := 16, sfidPos := 2
    sfidWidth := width }

/-- Table 1-4, step 9. -/
theorem test_start_refuses_the_format :
    let t := after .start { fmt := format17 3 }
    (t.run, t.host.cmdResult, t.host.errCount) = (.idle, .refusedFormat, 0) := by decide

/-- Table 1-4, step 11. -/
theorem test_start_enters_run :
    let t := after .start { fmt := format17 4 }
    (t.run, t.fs.sync, t.sf.state, t.host.cmdResult) = (.run, .search, .search, .accepted) := by decide

/-- Table 1-4, step 13. -/
theorem test_stop_rests :
    let t := after .stop { running .search (format17 4) 0 0 with sf := { state := .search } }
    (t.run, t.fs.sync, t.sf.state) = (.idle, .off, .off) := by decide

/-- Table 7-1, last row: the capture is abandoned; LOST(RESYNC) has code 4 and argument 3. -/
theorem test_resync_abandons_the_capture :
    let s := running .lock {} 190 0
    let t := after .resync { s with
      fs := { s.fs with fsn := 7 }
      cap := { every := 2, countdown := 2
               current := some { fsn := 7, coast := false, phase := some 0, slip := 0
                                 buffer := [0x0D, 0x9D] } } }
    (t.fs.sync, t.cap.abandoned, t.cap.current, t.queue.store)
      = (.search, 1, none, [[0x6004, 8, 4, 3]]) := by decide

/-- R70. -/
theorem test_swap_starts_a_validation : (after .swap {}).map.swap = .validating := by decide

/-- R78. -/
theorem test_cancel_swap_in_editable_is_refused :
    (after .cancelSwap {}).host.cmdResult = .refusedState := by decide

/-- Section 9.7, first variation: RO_FRM drops, IDLE, PORT_STALL stays clear. -/
theorem test_qflush_in_a_pause :
    let t := after .qflush portPaused
    (t.roFrm, t.port.mode, t.port.stall, t.ev.has .portStall, t.queue.count)
      = (false, .idle, .stopped, false, 0) := by decide

/-- Section 8.9.1: SKIP_RECORD at step 2 leaves the state after step 4. -/
theorem test_skip_takes_the_route_change :
    let t := after .skipRecord (partlyRead 2 .port)
    (t.queue.active, t.queue.count, t.queue.headRemain, t.queue.records) = (.port, 4, 4, 1) := by decide

/-- R119: a held part goes without a join fault. -/
theorem test_clear_channels_is_no_join_fault :
    let t := after .clearChannels { chan := holding }
    ((t.chan.entry 9).held, (t.chan.entry 9).profile, t.dec.joinFaults, t.ev.has .joinFault)
      = (none, 3, 0, false) := by decide

/-- R179: SLIPS goes to 0, FSN stays. -/
theorem test_clear_counters_keeps_fsn :
    let t := after .clearCounters { fs := { fsn := 7, slips := 3 } }
    (t.fs.fsn, t.fs.slips) = (7, 0) := by decide

/-- Table 11-3: the format and PORT_DIV are kept, PORT_STALL_MS is not. -/
theorem test_soft_reset_keeps_port_div :
    let t := after .softReset { fmt := format38, port := { portDiv := 9, stallMs := 2 } }
    (t.fmt.depth, t.port.portDiv, t.port.stallMs, t.host.cmdResult) = (4, 9, 0, .accepted) := by decide

/-- R178: 0Bh names no command. -/
theorem test_code_0Bh_is_refused :
    let t := after (.unnamedCommandCode 0x000B) {}
    (t.host.cmdCode, t.host.cmdResult, t.host.errCount) = (0x0B, .refusedCode, 0) := by decide

/-- Table 1-4, step 4: WPF 600 with WLEN 10. -/
theorem test_wpf_600_is_out_of_range :
    let t := after (.formatRegisterWrite 0x0F (10 * 1024 + 600)) {}
    (t.fmt.wpf, t.host.errCode, t.host.errCount, t.ev.has .hostError)
      = (64, some .range, 1, true) := by decide

/-- Table 1-4, step 12: STATE in RUN, and ERR_CODE keeps RANGE. -/
theorem test_format_write_in_run :
    let t := after (.formatRegisterWrite 0x0E 0x3210)
      { run := .run, host := { errCode := some .range, errCount := 1 } }
    (t.fmt.tolLock, t.host.errCode, t.host.errCount) = (2, some .range, 2) := by decide

/-- R11: with CLOCK_PRESENT set a value above 0 restarts the timer. -/
theorem test_clkloss_write_restarts_the_timer :
    (after (.clklossUsWrite 5) { clock := { present := true } }).clock.timer = .running 0 := by decide

/-- Table 8-2, step 4: the last word of A, and the change is taken. -/
theorem test_pop_of_the_last_word_takes_the_route :
    let t := after .qdataRead (partlyRead 4 .port)
    (t.host.dataBus, t.queue.active, t.queue.count, t.port.mode)
      = (some 0xFECF, .port, 4, .sending) := by decide

/-- Table 8-2, step 5: 0000h with QDATA_EMPTY. -/
theorem test_pop_on_the_port_route_is_refused :
    let t := after .qdataRead { queue := { store := [recordB], requested := .port, active := .port } }
    (t.host.dataBus, t.host.errCode, t.queue.count) = (some 0, some .qdataEmpty, 4) := by decide

/-- Table 11-4: TSPACE CHANNELS. -/
theorem test_tspace_channels : (after (.tspaceWrite 7) {}).host.tspace = .channels := by decide

/-- R174: code 9 names no space. -/
theorem test_tspace_9_is_out_of_range :
    (after (.tspaceWrite 9) {}).host.errCode = some .range := by decide

/-- Table 11-4: TINDEX 40. -/
theorem test_tindex_40 : (after (.tindexWrite 40) {}).host.tindex = 40 := by decide

/-- Table 11-4: the read at 2048 is refused and does not step. -/
theorem test_read_beyond_channels :
    let t := after .tdataRead (atTable .channels 2048)
    (t.host.dataBus, t.host.tindex, t.host.errCode) = (some 0, 2048, some .tableAddress) := by decide

/-- Table 11-4: word 1 of channel 5 is READ_ONLY, and TINDEX steps. -/
theorem test_write_of_word_1_is_read_only :
    let t := after (.tdataWrite 7) (atTable .channels 41)
    (t.host.tindex, t.host.errCode) = (42, some .readOnly) := by decide

/-- Section 5.8: the commit of profile 3 by word 3. -/
theorem test_commit_of_profile_3 :
    let t := after (.tdataWrite 4) { atTable .profiles 15 with
      prof := { staging := some { number := 3, word0 := 0x008A, word1 := 0x0C01, word2 := 0 } } }
    (t.prof.profile 3, t.prof.staging) = (profile58, none) := by decide

/-- Table 8-2, step 1: the change is pending over a touched head. -/
theorem test_route_change_waits :
    let t := after (.routeWrite 1) (partlyRead 2 .host)
    (t.queue.requested, t.queue.active, t.queue.routePending) = (.port, .host, true) := by decide

/-- Table 7-1: the write of 0 keeps the countdown. -/
theorem test_capture_0_keeps_the_countdown :
    (after (.captureWrite 0) { cap := { every := 3, countdown := 3 } }).cap.countdown = 3 := by decide

/-- Table 7-1: the write of 2 loads it with 1. -/
theorem test_capture_2_loads_the_countdown :
    (after (.captureWrite 2) { cap := { countdown := 3 } }).cap.countdown = 1 := by decide

/-- R156: in a pause a value above 0 restarts the timer. -/
theorem test_port_config_in_a_pause :
    let t := after (.portConfigWrite 0x0304) portPaused
    (t.port.stallMs, t.port.stall, t.port.clk) = (3, .running 0, some 4) := by decide

/-- R162: a clear of HOST_ERROR sets ERR_CODE to NONE. -/
theorem test_clear_of_host_error :
    let t := after (.latchedStatusWrite 0x4000) (hostError .range {})
    (t.ev.latched, t.host.errCode, t.host.errCount) = (0, none, 1) := by decide

/-- Table 10-3, last row: the pin is released. -/
theorem test_mark_hits_clear_releases_the_pin :
    let t := after (.markHitsWrite 3) { ev := { hits := 3, levelEnable := 0x20, masterEnable := true } }
    (t.ev.hits, t.intPin) = (0, .released) := by decide

/-- R138: 4096 is out of range. -/
theorem test_threshold_4096_is_out_of_range :
    (after (.registerWrite 0x2B 4096) {}).host.errCode = some .range := by decide

/-- R173: STATE has no writable field. -/
theorem test_write_of_state_is_read_only :
    (after (.registerWrite 0x00 1) {}).host.errCode = some .readOnly := by decide

/-- Table 5-7: word 21 of frame 501. -/
theorem test_join_of_frame_501 :
    let d := decodePart profile58 8 9 .lower
      { position := 21, raw := 0x9E, fsn := 501, coast := false, phase := some 0 } channel58
    (d.entry.value, d.entry.sampleCount, d.ready, d.record)
      = (0xFFFFFECF, 42, true, some recordA) := by decide

/-- Table 3-2. -/
theorem test_sfid_mapping :
    (List.range 8).map format38.phaseOfSfid
      = [none, none, some 3, some 2, some 1, some 0, none, none] := by decide

/-! ### Witnesses: what each obligation's hypotheses ask, met by a concrete state, clause by clause -/

/-- A state whose loss and stall timers, each of 10000 periods, have counted `loss` and `stall`. -/
def counted (loss stall : Nat) : State :=
  { clock := { present := true, timer := .running loss }
    port := { mode := .paused, stall := .running stall, stallMs := 1 } }

theorem witness_IdleStepTimesTheTwoIntervals :
    ({ resetAsserted := true } : State).pending = [] ∧ (counted 9999 9999).pending = []
      ∧ (counted 9999 9999).resetAsserted = false
      ∧ ((counted 9998 9998).clockExpires = false ∧ (counted 9998 9998).stallExpires = false)
      ∧ ((counted 0 9999).clockExpires = false ∧ (counted 0 9999).stallExpires = true)
      ∧ ((counted 9999 0).clockExpires = true ∧ (counted 9999 0).stallExpires = false)
      ∧ ((counted 9999 9999).clockExpires = true ∧ (counted 9999 9999).stallExpires = true) := by decide

theorem witness_ResetHeldQuietsTheBlock :
    ({ resetAsserted := true } : State).resetAsserted = true
      ∧ Instr.qdataRead ≠ .resetRelease ∧ Instr.start ≠ .resetRelease := by decide

theorem witness_BitNotTakenReachesOnlyTheClockMonitor :
    State.reset.resetAsserted = false ∧ ClockEdge.falling ≠ State.reset.fmt.clockEdge
      ∧ ClockEdge.rising = State.reset.fmt.clockEdge ∧ State.reset.fs.sync = .off := by decide

/-- A state in SEARCH with `fill` bits of history. -/
def searching (fill : Nat) (history : BitVec 52) : State :=
  { running .search short 0 0 with
    fs := { sync := .search, history := history, fill := fill } }

theorem witness_SearchBitFindsTheSyncOrGoesOn :
    (searching 6 0x53).resetAsserted = false ∧ (searching 6 0x53).fs.sync = .search
      ∧ ((searching 6 0x53).received true).fs.fill < short.syncLen
      ∧ short.tolSearch < ((searching 7 0).received true).fs.distance short 0
      ∧ short.syncLen ≤ ((searching 7 0x53).received true).fs.fill
      ∧ ((searching 7 0x53).received true).fs.distance short 0 ≤ short.tolSearch
      ∧ (searching 7 0x53).map.swap ≠ .pending := by decide

/-- A state in CHECK one bit before the expected sync end. -/
def checking (good : Nat) (history : BitVec 52) : State :=
  { running .check short 26 0 with
    fs := { sync := .check, goodCount := good, offset := 26, history := history, fill := 40 }
    sf := { held := some 0 } }

theorem witness_SyncCheckInCheck :
    (checking 0 0x53).resetAsserted = false ∧ (checking 0 0x53).fs.sync = .check
      ∧ (checking 0 0x53).fs.offset + 1 = short.frameLength + short.syncLen - 1
      ∧ (checking 0 0x53).map.swap ≠ .pending ∧ (checking 0 0x53).sf.state = .off
      ∧ (((checking 0 0x53).received true).fs.distance short 0 ≤ short.tolCheck
        ∧ 0 + 1 < short.checkCount)
      ∧ (((checking 1 0x53).received true).fs.distance short 0 ≤ short.tolCheck
        ∧ short.checkCount ≤ 1 + 1)
      ∧ short.tolCheck < ((checking 0 0x53).received false).fs.distance short 0 := by decide

theorem witness_SlipCandidatesTriedInOrder :
    (running .lock short 28 0).fmt.slipWin ≤ 2 ∧ (running .lock format210 559 0).fmt.slipWin ≤ 2
      ∧ State.reset.fmt.slipWin ≤ 2 := by decide

theorem short_inRange : short.InRange := by unfold Format.InRange; decide

/-- A state in LOCK or COAST one bit before its sync check. -/
def atLockCheck (sync : SyncState) (misses : Nat) (history : BitVec 52) : State :=
  { running sync short 28 0 with
    fs := { sync := sync, missCount := misses, offset := 28, history := history, fill := 40
            decodedMark := true, coastMark := decide (sync = .coast) }
    sf := { held := some 0 } }

theorem witness_ExactPassInLock :
    (atLockCheck .lock 0 (0xA7 * 2)).resetAsserted = false
      ∧ (atLockCheck .lock 0 (0xA7 * 2)).fs.sync = .lock
      ∧ (atLockCheck .lock 0 (0xA7 * 2)).fs.offset + 1
          = short.frameLength + short.syncLen - 1 + short.slipWin
      ∧ ((atLockCheck .lock 0 (0xA7 * 2)).received false).fs.distance short short.slipWin
          ≤ short.tolLock := by decide

theorem witness_PassMovesTheFrameStart :
    (atLockCheck .coast 1 (0xA7 * 2)).fs.sync = .coast
      ∧ ((atLockCheck .coast 1 (0xA7 * 2)).received false).takenOffset = some 0
      ∧ ((atLockCheck .lock 0 (0xA7 * 8)).received false).takenOffset = some (-2)
      ∧ ((atLockCheck .lock 0 0x53).received true).takenOffset = some 2
      ∧ short.wlen = 4 ∧ (short.slipWin : Int) - (-2) = 4 := by decide

theorem witness_MissCoastsOrLosesLock :
    ((atLockCheck .lock 0 0).received false).takenOffset = none ∧ 0 + 1 < short.lockMiss
      ∧ ((atLockCheck .coast 2 0).received false).takenOffset = none
      ∧ (atLockCheck .coast 2 0).fs.missCount = 2 ∧ short.lockMiss ≤ 2 + 1 := by decide

/-- A state whose loss timer, of 10000 periods, has counted `n`. -/
def clocked (n : Nat) (s : State) : State := { s with clock := { present := true, timer := .running n } }

/-- A bit gives a reading or none: in section 3.8 at word 4 and one bit before it, and at the last word of
a short frame with DEPTH 2 and with DEPTH 1. -/
theorem witness_BitGivesAReading :
    let bit := fun s : State => after (.bitArrival .rising true) s
    let shortAt := fun depth => clocked 9999
      (running .lock { short with depth := depth, sfidPos := 3, sfidWidth := 1 } 18 0)
    ((bit (dueInLock 54)).fs.decodedMark = true ∧ 1 < format38.depth ∧ format38.sfidPos ≤ format38.wpf
        ∧ (bit (dueInLock 54)).fs.offset + 1 = format38.syncLen + format38.sfidPos * format38.wlen)
      ∧ (bit (dueInLock 53)).fs.offset + 1 ≠ format38.syncLen + format38.sfidPos * format38.wlen
      ∧ ((bit (shortAt 2)).fs.decodedMark = true ∧ 1 < (bit (shortAt 2)).fmt.depth
        ∧ (bit (shortAt 2)).fs.offset + 1 = short.syncLen + 3 * short.wlen)
      ∧ ¬ 1 < (bit (shortAt 1)).fmt.depth := by decide

theorem format38_inRange : format38.InRange := by unfold Format.InRange; decide

theorem witness_ResyncAndClockLossBySyncState :
    ((clocked 9999 {}).resetAsserted = false ∧ (clocked 9999 {}).run = .idle
        ∧ (clocked 9999 {}).fs.sync = .off)
      ∧ ((clocked 9999 {}).clock.timer = .running 9999
        ∧ (clocked 9999 {}).fmt.clklossUs * 10 ≤ 9999 + 1)
      ∧ ((clocked 9998 {}).clock.timer = .running 9998
        ∧ 9998 + 1 < (clocked 9998 {}).fmt.clklossUs * 10 ∧ (clocked 9998 {}).clock.overtaken = false)
      ∧ (clocked 9999 (searching 7 0)).run = .run ∧ (clocked 9999 (searching 7 0)).fs.sync = .search
      ∧ (clocked 9999 (checking 0 0)).fs.sync = .check
      ∧ (clocked 9999 (atLockCheck .lock 0 0)).fs.sync.inLock = true
      ∧ (clocked 9999 (atLockCheck .coast 1 0)).fs.sync.inLock = true
      ∧ short.clklossUs * 10 ≤ 9999 + 1
      ∧ ((dueInLock 54).fmt.InRange ∧ (dueInLock 54).resetAsserted = false
        ∧ (dueInLock 54).clock.timer = .running 9999 ∧ (dueInLock 54).fmt.clklossUs * 10 ≤ 9999 + 1) :=
  ⟨by decide, by decide, by decide, rfl, rfl, rfl, rfl, rfl, by decide, format38_inRange, rfl, rfl,
    by decide⟩

/-- Every table memory of a state that lists one channel entry is canonical. -/
theorem holding_canonical : ({ chan := holding } : State).MemoriesCanonical := by
  unfold State.MemoriesCanonical MapBank.Canonical
  decide

theorem witness_InterruptionDropsHeldPartsAndCapture :
    ({ chan := holding } : State).MemoriesCanonical
      ∧ (({ chan := holding } : State).chan.entry 9).held ≠ none :=
  ⟨holding_canonical, by decide⟩

theorem witness_FrameBitDeliversCompletedWords :
    (running .check short 10 0).fs.offset + 1 ≠ short.frameLength + short.syncLen - 1
      ∧ (running .check short 10 0).fs.decodedMark = false
      ∧ (running .lock short 10 0).fs.offset + 1
          ≠ short.frameLength + short.syncLen - 1 + short.slipWin
      ∧ (running .lock short 10 0).fs.decodedMark = true
      ∧ (running .lock short 10 0).fs.offset + 1 = short.syncLen + 1 * short.wlen - 1
      ∧ (running .lock short 18 0).fs.offset + 1 = short.syncLen + short.wpf * short.wlen - 1
      ∧ (∀ k, k ≤ short.wpf →
          (running .lock short 11 0).fs.offset + 1 ≠ short.syncLen + k * short.wlen - 1) := by decide

theorem witness_SfidMapsPhasesOneToOne :
    (format38.depth ≤ 2 ^ format38.sfidWidth ∧ format38.sfidBase < 2 ^ format38.sfidWidth)
      ∧ (256 ≤ 2 ^ 8 ∧ 255 < 2 ^ 8) := by decide

/-- A subframe synchronizer with a held phase. -/
def phased (state : SubState) (p good miss : Nat) : SubframeSync :=
  { state := state, held := some p, goodCount := good, missCount := miss }

theorem witness_SfidReadingOutcomes :
    (format38.phaseOfSfid 5 = some 0 ∧ format38.phaseOfSfid 7 = none)
      ∧ ((phased .check 3 0 0).held.map format38.sfidOfPhase = some 2
        ∧ 0 + 1 < format38.sfCheckCount ∧ format38.sfCheckCount ≤ 1 + 1)
      ∧ ((phased .check 2 0 0).held.map format38.sfidOfPhase ≠ some 2
        ∧ format38.phaseOfSfid 2 = some 3)
      ∧ ((phased .lock 2 0 1).held.map format38.sfidOfPhase = some 3)
      ∧ ((phased .lock 1 0 0).held.map format38.sfidOfPhase ≠ some 0 ∧ 0 + 1 < format38.sfMiss)
      ∧ ((phased .lock 0 0 1).held.map format38.sfidOfPhase ≠ some 7
        ∧ format38.sfMiss ≤ 1 + 1) := by decide

/-- A map store whose active bank has an entry of each kind. -/
def mapped : MapStore :=
  { bankA := { map := [(0, 0x6009), (1, 0x4109), (2, 0x4209), (3, 0x8001), (4, 0xC000)]
               lists := [(2, 5), (3, 4)], pool := [(6, 9)] } }

theorem witness_ResolutionFollowsTheActiveBank :
    (mapped.bankA.mapWord 5).toNat / 2 ^ 14 = 0
      ∧ ((mapped.bankA.mapWord 0).toNat / 2 ^ 14 = 1
        ∧ (mapped.bankA.mapWord 0).toNat / 256 % 4 = 0)
      ∧ (mapped.bankA.mapWord 1).toNat / 256 % 4 = 1
      ∧ (mapped.bankA.mapWord 2).toNat / 256 % 4 = 2
      ∧ (mapped.bankA.mapWord 3).toNat / 2 ^ 14 = 2
      ∧ (mapped.bankA.mapWord 4).toNat / 2 ^ 14 = 3 := by decide

theorem witness_ValidationGivesTheFirstFailure :
    ({ map := [(3, 0x8000)] } : MapBank).validate = some (3, .listEmpty)
      ∧ ({ map := [(0, 0xC000)] } : MapBank).validate = some (0, .defaultInherit)
      ∧ ({ map := [(0, 0x4100)] } : MapBank).validate = some (0, .defaultPart)
      ∧ ({ map := [(512, 0x8000)], lists := [(0, 1023), (1, 2)] } : MapBank).validate
          = some (512, .listRange)
      ∧ ({} : MapBank).validate = none := by decide +kernel

theorem witness_ValidationEndOutcome :
    ({ map := { bankB := { map := [(3, 0x8000)] }, swap := .validating } } : State).map.swap
        = .validating
      ∧ ({ map := [(3, 0x8000)] } : MapBank).validate = some (3, .listEmpty)
      ∧ ({} : MapBank).validate = none
      ∧ (({ running .lock short 5 0 with map := { swap := .validating } } : State).run = .run
        ∧ (running .lock short 5 0).fs.sync = .lock)
      ∧ ({ map := { swap := .validating } } : State).run ≠ .run := by decide +kernel

theorem witness_SwapCommandsMoveTheSwapState :
    State.reset.map.swap = .editable
      ∧ ({ map := { swap := .pending } } : State).map.swap ≠ .editable
      ∧ ({ map := { swap := .validating } } : State).map.swap ≠ .editable := by decide

/-- A state that lists nothing is canonical, whatever else it holds. -/
theorem canonical_of_empty (s : State) (hm : s.map.bankA = {}) (hb : s.map.bankB = {})
    (hp : s.prof.profiles = []) (hc : s.chan.entries = []) : s.MemoriesCanonical := by
  unfold State.MemoriesCanonical MapBank.Canonical
  rw [hm, hb, hp, hc]
  decide

theorem witness_BankWriteCheckedThenStored :
    ((atTable .mapA 512).MemoriesCanonical ∧ (atTable .mapA 512).host.tindex < Space.mapA.words
        ∧ Bank.a = (atTable .mapA 512).map.active)
      ∧ (Bank.b ≠ (atTable .mapB 512).map.active ∧ (atTable .mapB 512).map.swap = .editable)
      ∧ ({ atTable .listsB 127 with map := { swap := .pending } } : State).map.swap ≠ .editable
      ∧ ((0x4300 : Word).toNat / 2 ^ 14 = 1 ∧ (0x4300 : Word).toNat / 256 % 4 = 3)
      ∧ 256 < (257 : Word).toNat ∧ ¬ 256 < (256 : Word).toNat
      ∧ ¬ (255 < (0xFFFF : Word).toNat ∧ (0xFFFF : Word) ≠ 0xFFFF) :=
  ⟨⟨canonical_of_empty _ rfl rfl rfl rfl, by decide, by decide⟩, by decide⟩

theorem witness_ProfileWritesStageAndCommit :
    (atTable .profiles 63).MemoriesCanonical ∧ (atTable .profiles 63).host.tspace = .profiles
      ∧ (atTable .profiles 63).host.tindex < 64 ∧ 63 % 4 = 3 ∧ 60 % 4 = 0 ∧ 61 % 4 = 1 ∧ 62 % 4 = 2
      ∧ profileOf 0x008A 0x0C01 0 4 = some profile58
      ∧ profileOf 0x0018 0x1000 0 0 = none ∧ profileOf 0x0040 0x1100 0 0 = none
      ∧ profileOf 0 0x2001 0 0 = none ∧ profileOf 0 0x0000 0 0 = none :=
  ⟨canonical_of_empty _ rfl rfl rfl rfl, by decide⟩

theorem witness_CodedValueFitsItsRepresentation :
    (1 ≤ 1 ∧ 1 < 2 ^ 1) ∧ (32 ≤ 32 ∧ 2 ^ 32 - 1 < 2 ^ 32) ∧ (profile58.fieldWidth = 12 ∧ 3796 < 2 ^ 12) := by
  decide

/-- The word of a failing parity check under DROP. -/
def dropping : Profile := { profile58 with parityAction := .drop }

/-- A word with a raw value. -/
def wordOf (raw : Word) : WordInfo :=
  { position := 21, raw := raw, fsn := 501, coast := false, phase := some 0 }

theorem witness_PartsAreOrderedCheckedAndJoined :
    ((wordOf 0xF).raw.toNat < 2 ^ 4 ∧ (wordOf 0xFFFF).raw.toNat < 2 ^ 16)
      ∧ (parityFails dropping.parity 8 (wordOf 0x9F).raw = true ∧ dropping.parityAction = .drop)
      ∧ parityFails profile58.parity 8 (wordOf 0x9E).raw = false
      ∧ ({} : ChannelEntry).held = none ∧ channel58.held = some { raw := 0x9D, failed := false }
      ∧ ({ raw := 0x9F, failed := true } : HeldPart).failed = true := by decide

theorem witness_ValueIsNulledSuppressedOrStored :
    (({ nullEn := true, nullValue := 7 } : Profile).field 7 = 7)
      ∧ (channel58.valid = true
        ∧ (codedValue .twos 12 (profile58.field 0x9DA8) - storedValue .twos channel58.value).natAbs < 4)
      ∧ ¬ (codedValue .twos 12 (profile58.field 0x9D9E) - storedValue .twos channel58.value).natAbs
          < 4 := by decide

theorem witness_DecodeReachesOneChannel :
    ({ chan := holding } : State).MemoriesCanonical
      ∧ mapped.resolve 5 none = .ignore ∧ mapped.resolve 3 none = .phaseUnknown
      ∧ mapped.resolve 3 (some 1) = .channel 9 .whole ∧ mapped.resolve 3 (some 2) = .noSample
      ∧ mapped.resolve 2 none = .channel 9 .lower :=
  ⟨holding_canonical, by decide⟩

theorem witness_ClearChannelsKeepsTheConfiguration :
    ({ chan := holding } : State).MemoriesCanonical
      ∧ ({ chan := holding } : State).resetAsserted = false :=
  ⟨holding_canonical, rfl⟩

theorem witness_ChannelWritesAndRefusedTableWrites :
    (atTable .channels 2047).MemoriesCanonical
      ∧ Space.channels.words ≤ (atTable .channels 2048).host.tindex
      ∧ ((atTable .summary 15).host.tindex < 16 ∧ (atTable .summary 15).host.tspace = .summary)
      ∧ ((atTable .channels 2047).host.tindex < 2048 ∧ 2047 % 8 ≠ 0)
      ∧ ((atTable .channels 2040).host.tindex < 2048 ∧ 2040 % 8 = 0) :=
  ⟨canonical_of_empty _ rfl rfl rfl rfl, by decide⟩

theorem witness_TableReadStepsAndLatches :
    Space.poolB.words ≤ (atTable .poolB 1024).host.tindex
      ∧ ((atTable .poolB 1023).host.tindex < Space.poolB.words
        ∧ (atTable .poolB 1023).host.tspace ≠ .channels)
      ∧ ((atTable .channels 2040).host.tindex < 2048 ∧ 2040 % 8 = 0)
      ∧ (({ atTable .channels 2047 with
            chan := { latch := some { channel := 255, words := [] } } } : State).chan.latch
          = some { channel := 255, words := [] } ∧ 2047 / 8 = 255 ∧ 2047 % 8 ≠ 0) := by decide

theorem witness_ChannelWordsShowTheEntry :
    ({} : ChannelEntry).held = none ∧ channel58.held = some { raw := 0x9D, failed := false }
      ∧ 15 < 16 := by decide

theorem witness_CaptureWriteLoadsTheCountdown : State.reset.resetAsserted = false := by decide

/-- A capture in progress with two words. -/
def capturing : CaptureUnit :=
  { every := 2, countdown := 2
    current := some { fsn := 7, coast := true, phase := some 255, slip := -2, buffer := [0x0D, 0x9D] } }

theorem witness_CaptureGathersAndOffersItsFrame :
    ({} : CaptureUnit).current = none
      ∧ (∃ c, capturing.current = some c ∧ c.buffer ≠ [] ∧ c.buffer.length ≤ 512
          ∧ c.slip.natAbs ≤ 2 ∧ c.phase = some 255 ∧ 255 < 256)
      ∧ ({ capturing with current := none } : CaptureUnit).current = none :=
  ⟨rfl, ⟨_, rfl, by decide, by decide, by decide, rfl, by decide⟩, rfl⟩

/-- A state with a record of `n` words in the store. -/
def stored (n : Nat) (gap : Word) : State :=
  { queue := { store := [List.replicate n 0], gapPending := gap } }

theorem stored_outputSafe (n : Nat) (gap : Word) (h : 0 < n) (hn : n ≤ 4096) :
    (stored n gap).OutputSafe := by
  simp [State.OutputSafe, RecordQueue.Sound, stored, RecordQueue.count, RecordQueue.head,
    Config.storeWords]
  omega

theorem stored_count (n : Nat) (gap : Word) : (stored n gap).queue.count = n := by
  simp [stored, RecordQueue.count]

theorem witness_AdmissionAppendsTheWholeRecord :
    State.reset.OutputSafe
      ∧ (stored 4091 0).OutputSafe ∧ (stored 4091 0).queue.count + (0 + recordA.length) = 4096
      ∧ (stored 4089 2).OutputSafe ∧ (stored 4089 2).queue.count + (2 + recordA.length) = 4096
      ∧ recordA ≠ [] := by
  refine ⟨?_, stored_outputSafe _ _ (by decide) (by decide), ?_,
    stored_outputSafe _ _ (by decide) (by decide), ?_, by decide⟩
  · simp [State.OutputSafe, RecordQueue.Sound, State.reset, RecordQueue.count, RecordQueue.head,
      Config.storeWords]
  · rw [stored_count]; decide
  · rw [stored_count]; decide

theorem witness_RecordThatDoesNotFitIsDropped :
    4096 < (stored 4092 0).queue.count + 0 + recordA.length
      ∧ 4096 < (stored 4090 1).queue.count + 2 + recordA.length := by
  rw [stored_count, stored_count]
  decide

theorem partlyRead_outputSafe : (partlyRead 4 .port).OutputSafe := by
  simp [State.OutputSafe, RecordQueue.Sound, partlyRead, RecordQueue.count, RecordQueue.head,
    RecordQueue.untouched, Config.storeWords, recordA, recordB]

theorem witness_QdataPopsOrRefuses :
    State.reset.queue.store = [] ∧ (portSending 0 none false).queue.active = .port
      ∧ (partlyRead 4 .port).OutputSafe ∧ (partlyRead 4 .port).queue.active = .host
      ∧ (partlyRead 4 .port).queue.store = recordA :: [recordB]
      ∧ (3 + 1 < recordA.length ∧ 4 + 1 = recordA.length)
      ∧ (partlyRead 4 .port).queue.requested = .port
      ∧ (partlyRead 4 .host).queue.requested = .host :=
  ⟨rfl, rfl, partlyRead_outputSafe, rfl, rfl, by decide, rfl, rfl⟩

theorem witness_FlushAndSkipRemoveRecords :
    portPaused.queue.requested = portPaused.queue.active
      ∧ (({ portPaused with queue := { portPaused.queue with requested := .host } } : State).queue.requested
          = .host ∧ portPaused.queue.active = .port)
      ∧ ((partlyRead 2 .port).queue.requested = .port ∧ (partlyRead 2 .port).queue.active = .host)
      ∧ State.reset.queue.store = []
      ∧ ((partlyRead 2 .host).queue.store ≠ [] ∧ (partlyRead 2 .host).queue.requested = .host) := by
  decide

theorem witness_RouteAndPortConfigWrites :
    Route.host = State.reset.queue.active
      ∧ ¬ ((partlyRead 2 .host).queue.store = []
        ∨ ((partlyRead 2 .host).queue.consumed = 0 ∧ (partlyRead 2 .host).queue.begun = false))
      ∧ ((partlyRead 0 .host).queue.consumed = 0 ∧ (partlyRead 0 .host).queue.begun = false)
      ∧ ((portSending 0 none false).queue.active = .port
        ∧ (portSending 0 none false).queue.consumed = 0
        ∧ (portSending 0 none false).queue.begun = false) := by decide

theorem witness_PortBeginsPausesAndStalls :
    ((portSending 0 none false).port.mode = .sending ∧ (portSending 0 none false).queue.begun = false)
      ∧ portPaused.port.mode = .paused
      ∧ (portPaused.port.stall = .running 9999 ∧ portPaused.port.stallMs * 10000 ≤ 9999 + 1)
      ∧ ((counted 0 9998).port.stall = .running 9998
        ∧ 9998 + 1 < (counted 0 9998).port.stallMs * 10000) := by decide

theorem witness_PortSendsWordByWord :
    ((portSending 0 (some 14) true).queue.store = recordA :: []
        ∧ (portSending 0 (some 14) true).port.mode = .sending
        ∧ (portSending 0 (some 14) true).queue.begun = true
        ∧ (portSending 0 (some 14) true).port.inFlight = some 14 ∧ 14 < 15)
      ∧ ((portSending 3 (some 15) true).port.inFlight = some 15 ∧ 3 + 1 < recordA.length)
      ∧ 4 + 1 = recordA.length
      ∧ (portSending 4 (some 15) true).queue.requested = (portSending 4 (some 15) true).queue.active
      ∧ ({ (portSending 4 (some 15) true).queue with requested := .host } : RecordQueue).active
          = .port := by decide

theorem witness_HostErrorsSetStatusAndOnesClearIt : State.reset.resetAsserted = false ∧ 14 < 15 := by
  decide

/-- A state whose line MARK_ANY holds active. -/
def lineUp : State := { ev := { hits := 1, levelEnable := 0x20, masterEnable := true } }

theorem witness_InterruptLineFollowsEnabledStatus :
    (lineUp.resetAsserted = false ∧ lineUp.lineActive = true)
      ∧ (State.reset.lineActive = false ∧ State.reset.ev.drive = .openDrain)
      ∧ ({ ev := { drive := .pushPull } } : State).lineActive = false := by decide

theorem witness_TableAddressWrites :
    State.reset.resetAsserted = false ∧ (8 : Word).toNat % 16 = Space.summary.code
      ∧ (0 : Word).toNat % 16 = Space.mapA.code ∧ 9 ≤ (9 : Word).toNat % 16 := by decide

theorem power_on_inRange : State.reset.fmt.InRange := by unfold Format.InRange; decide

theorem witness_FormatRegistersWrittenWholeReadBack :
    State.reset.fmt.InRange ∧ State.reset.run = .idle ∧ (running .lock short 5 0).run = .run
      ∧ (formatAddress 0x08 = true ∧ formatAddress 0x0D = true)
      ∧ (formatAddress 0x13 = true ∧ 0x0E ≤ (0x13 : BitVec 6).toNat)
      ∧ ({ State.reset.fmt with wpf := 128, wlen := 10 } : Format).InRange
      ∧ ¬ ({ State.reset.fmt with wpf := 600, wlen := 10 } : Format).InRange := by
  refine ⟨power_on_inRange, ?_⟩
  unfold Format.InRange
  decide

theorem witness_StartChecksTheFormatThenRuns :
    (running .lock short 5 0).run = .run ∧ State.reset.run = .idle
      ∧ (format17 4).startChecks = true ∧ (format17 3).startChecks = false := by decide

theorem witness_StopReturnsToRest :
    State.reset.run = .idle ∧ (running .lock short 5 0).run = .run
      ∧ (running .lock short 5 0).map.swap ≠ .pending
      ∧ ({ running .lock short 5 0 with map := { swap := .pending } } : State).map.swap = .pending := by
  decide

theorem witness_ClearCountersZeroesTheNineCounters : State.reset.resetAsserted = false := by decide

theorem witness_SoftResetKeepsTheConfiguration :
    ({ chan := holding } : State).MemoriesCanonical
      ∧ ({ chan := holding } : State).resetAsserted = false :=
  ⟨holding_canonical, rfl⟩

theorem witness_RemainingWritesAndRegisterReads :
    ((0 : Word).toNat % 256 = 0 ∧ 0x0A < (0x0B : Word).toNat % 256)
      ∧ ((0x3F : BitVec 6).toNat = 0x3F ∧ (0x15 : BitVec 6).toNat = 0x15)
      ∧ ((0x2B : BitVec 6).toNat = 0x2B ∧ (4095 : Word).toNat ≤ 4095 ∧ 4095 < (4096 : Word).toNat)
      ∧ ((0x39 : BitVec 6).toNat = 0x36 + 3 ∧ (512 : Word).toNat % 1024 ≤ 512
        ∧ 512 < (513 : Word).toNat % 1024)
      ∧ (0x3D : BitVec 6).toNat = 0x3A + 3
      ∧ (({ fs := { goodCount := 14 } } : State).fs.goodCount < 16
        ∧ ({ fs := { missCount := 14 } } : State).fs.missCount < 16)
      ∧ ((phased .check 0 6 0).goodCount < 8 ∧ (phased .lock 0 0 14).missCount < 16)
      ∧ (({} : SubframeSync).held = none ∧ (phased .lock 255 0 0).held = some 255 ∧ 255 < 256)
      ∧ ({ location := 512 } : MapFault).location < 1024
      ∧ (({} : CaptureUnit).current = none
        ∧ capturing.current.map (fun c => decide (c.buffer.length < 1024)) = some true)
      ∧ (State.reset.queue.store = [] ∧ (partlyRead 2 .host).queue.store = recordA :: [recordB])
      ∧ ({ portDiv := 255 } : OutputPort).portDiv < 256 := by decide

/-! ### Witnesses of the invariants: a state that meets each, and a step from it -/

/-- A decoded frame in progress at position 2, with a held part, a capture and the LOCK record. -/
def midFrame : State :=
  { running .lock short 12 0 with
    sf := { held := some 0 }
    chan := holding
    cap := { every := 1, current := some { fsn := 2, coast := false, phase := some 0, slip := 0
                                           buffer := [0x0D] } }
    queue := { store := [recordB] } }

theorem witness_StepsKeepTheTablesSound :
    midFrame.MemoriesCanonical ∧ midFrame.OverrunSafe ∧ ∃ t, step midFrame = .next t := by
  refine ⟨?_, ?_, _, rfl⟩
  · unfold State.MemoriesCanonical MapBank.Canonical
    decide
  · unfold State.OverrunSafe
    decide

theorem witness_StepsKeepTheActiveBankValid :
    ({ running .lock short 12 0 with map := { swap := .pending } } : State).BanksSafe
      ∧ ∃ t, step { running .lock short 12 0 with map := { swap := .pending } } = .next t := by
  refine ⟨?_, _, rfl⟩
  unfold State.BanksSafe MapBank.Valid
  decide +kernel

theorem witness_StepsKeepQueueAndPortInAgreement :
    portPaused.OutputSafe ∧ ∃ t, step { portPaused with pending := [.portPauseEnd] } = .next t := by
  refine ⟨?_, _, rfl⟩
  simp [State.OutputSafe, RecordQueue.Sound, portPaused, RecordQueue.count, RecordQueue.head,
    Config.storeWords, recordA]

theorem midFrame_safe :
    midFrame.SyncSafe ∧ midFrame.PhaseSafe ∧ midFrame.FrameWorkSafe ∧ midFrame.BufferSafe
      ∧ midFrame.HeadersTrue := by
  refine ⟨?_, ?_, ?_, ?_, ?_⟩
  · unfold State.SyncSafe Format.InRange
    decide
  · simp [State.PhaseSafe, midFrame, running, short]
  · intro _
    decide
  · intro c hc
    cases hc
    decide
  · unfold State.HeadersTrue
    decide

theorem witness_StepsKeepTheSynchronizersSound :
    midFrame.SyncSafe ∧ midFrame.PhaseSafe ∧ ∃ t, step midFrame = .next t :=
  ⟨midFrame_safe.1, midFrame_safe.2.1, _, rfl⟩

theorem witness_StepsKeepFrameWorkInsideFrames :
    midFrame.SyncSafe ∧ midFrame.FrameWorkSafe ∧ midFrame.BufferSafe ∧ midFrame.HeadersTrue
      ∧ ∃ t, step midFrame = .next t :=
  ⟨midFrame_safe.1, midFrame_safe.2.2.1, midFrame_safe.2.2.2.1, midFrame_safe.2.2.2.2, _, rfl⟩

end Sys2Proof.Tests
end

section
/-! PROOF. The mapping between phase and SFID value (R42): `sfidOfPhase` and the candidate phase are inverse
to each other below M, and DEPTH of the M values map to a phase. -/

namespace Sys2Proof.Machine

theorem Format.sfidModulus_pos (f : Format) : 0 < f.sfidModulus := Nat.two_pow_pos f.sfidWidth

/-! ### Closed forms over the integers and over the naturals -/

theorem natCast_toNat_emod (a : Int) {m : Nat} (hm : 0 < m) : ((a % m).toNat : Int) = a % m :=
  Int.toNat_of_nonneg (Int.emod_nonneg a (by omega))

/-- A difference mod M, taken over the integers, is the natural one with M added before subtracting. -/
theorem toNat_sub_emod {a b m : Nat} (hb : b ≤ a + m) :
    (((a : Int) - b) % m).toNat = (a + m - b) % m := by
  have shift : ((a + m - b : Nat) : Int) = (a - b) + m := by omega
  have : ((a : Int) - b) % m = ((a + m - b) % m : Nat) := by
    rw [Int.natCast_emod, shift, Int.add_emod_right]
  rw [this, Int.toNat_natCast]

/-- The candidate phase of an SFID value (R42), before it is compared with DEPTH. -/
def Format.candidatePhase (f : Format) (v : Nat) : Nat :=
  match f.sfidDir with
  | .up => (((v : Int) - f.sfidBase) % f.sfidModulus).toNat
  | .down => (((f.sfidBase : Int) - v) % f.sfidModulus).toNat

theorem Format.phaseOfSfid_of_candidatePhase {f : Format} {v c : Nat} (h : f.candidatePhase v = c) :
    f.phaseOfSfid v = if c < f.depth then some c else none := by
  subst h
  rfl

theorem Format.candidatePhase_up {f : Format} (hdir : f.sfidDir = .up) (v : Nat) :
    (f.candidatePhase v : Int) = ((v : Int) - f.sfidBase) % f.sfidModulus := by
  simp only [candidatePhase, hdir, natCast_toNat_emod _ f.sfidModulus_pos]

theorem Format.candidatePhase_down {f : Format} (hdir : f.sfidDir = .down) (v : Nat) :
    (f.candidatePhase v : Int) = ((f.sfidBase : Int) - v) % f.sfidModulus := by
  simp only [candidatePhase, hdir, natCast_toNat_emod _ f.sfidModulus_pos]

theorem Format.sfidOfPhase_up {f : Format} (hdir : f.sfidDir = .up) (p : Nat) :
    (f.sfidOfPhase p : Int) = ((f.sfidBase : Int) + p) % f.sfidModulus := by
  simp only [sfidOfPhase, hdir, natCast_toNat_emod _ f.sfidModulus_pos]

theorem Format.sfidOfPhase_down {f : Format} (hdir : f.sfidDir = .down) (p : Nat) :
    (f.sfidOfPhase p : Int) = ((f.sfidBase : Int) - p) % f.sfidModulus := by
  simp only [sfidOfPhase, hdir, natCast_toNat_emod _ f.sfidModulus_pos]

theorem Format.sfidOfPhase_eq_mod {f : Format} {p : Nat} (hp : p ≤ f.sfidModulus) :
    f.sfidOfPhase p = match f.sfidDir with
      | .up => (f.sfidBase + p) % f.sfidModulus
      | .down => (f.sfidBase + f.sfidModulus - p) % f.sfidModulus := by
  cases hdir : f.sfidDir with
  | up =>
    have := f.sfidOfPhase_up hdir p
    dsimp only
    exact_mod_cast this
  | down =>
    simp only [sfidOfPhase, hdir]
    exact toNat_sub_emod (by omega)

theorem Format.candidatePhase_eq_mod {f : Format} {v : Nat} (hv : v ≤ f.sfidModulus)
    (hbase : f.sfidBase ≤ f.sfidModulus) :
    f.candidatePhase v = match f.sfidDir with
      | .up => (v + f.sfidModulus - f.sfidBase) % f.sfidModulus
      | .down => (f.sfidBase + f.sfidModulus - v) % f.sfidModulus := by
  cases hdir : f.sfidDir with
  | up | down =>
    simp only [candidatePhase, hdir]
    exact toNat_sub_emod (by omega)

/-! ### The two maps are inverse to each other below M -/

theorem Format.sfidOfPhase_lt (f : Format) (p : Nat) : f.sfidOfPhase p < f.sfidModulus := by
  have hpos : (0 : Int) < f.sfidModulus := by exact_mod_cast f.sfidModulus_pos
  zify
  cases hdir : f.sfidDir with
  | up => exact f.sfidOfPhase_up hdir p ▸ Int.emod_lt_of_pos _ hpos
  | down => exact f.sfidOfPhase_down hdir p ▸ Int.emod_lt_of_pos _ hpos

theorem Format.candidatePhase_sfidOfPhase {f : Format} {p : Nat} (hp : p < f.sfidModulus) :
    f.candidatePhase (f.sfidOfPhase p) = p := by
  have hmod : (p : Int) % f.sfidModulus = p := by exact_mod_cast Nat.mod_eq_of_lt hp
  zify
  cases hdir : f.sfidDir with
  | up => rw [candidatePhase_up hdir, sfidOfPhase_up hdir, Int.emod_sub_emod, add_sub_cancel_left, hmod]
  | down => rw [candidatePhase_down hdir, sfidOfPhase_down hdir, Int.sub_emod_emod, sub_sub_cancel, hmod]

theorem Format.sfidOfPhase_candidatePhase {f : Format} {v : Nat} (hv : v < f.sfidModulus) :
    f.sfidOfPhase (f.candidatePhase v) = v := by
  have hmod : (v : Int) % f.sfidModulus = v := by exact_mod_cast Nat.mod_eq_of_lt hv
  zify
  cases hdir : f.sfidDir with
  | up => rw [sfidOfPhase_up hdir, candidatePhase_up hdir, Int.add_emod_emod, add_sub_cancel, hmod]
  | down => rw [sfidOfPhase_down hdir, candidatePhase_down hdir, Int.sub_emod_emod, sub_sub_cancel, hmod]

theorem Format.phaseOfSfid_sfidOfPhase {f : Format} (hdepth : f.depth ≤ f.sfidModulus) {p : Nat}
    (hp : p < f.depth) : f.phaseOfSfid (f.sfidOfPhase p) = some p := by
  rw [phaseOfSfid_of_candidatePhase (candidatePhase_sfidOfPhase (by omega)), if_pos hp]

theorem Format.phaseOfSfid_eq_some {f : Format} {v p : Nat} (hv : v < f.sfidModulus)
    (h : f.phaseOfSfid v = some p) : p < f.depth ∧ f.sfidOfPhase p = v := by
  rw [phaseOfSfid_of_candidatePhase rfl, Option.ite_none_right_eq_some, Option.some_inj] at h
  obtain ⟨hlt, rfl⟩ := h
  exact ⟨hlt, sfidOfPhase_candidatePhase hv⟩

/-! ### How many values map to a phase -/

/-- The values that map to a phase are those the phases below DEPTH carry, each once. -/
theorem Format.mapped_values_perm {f : Format} (hdepth : f.depth ≤ f.sfidModulus) :
    ((List.range f.sfidModulus).filter fun v => (f.phaseOfSfid v).isSome).Perm
      ((List.range f.depth).map f.sfidOfPhase) := by
  refine (List.perm_ext_iff_of_nodup (List.nodup_range.filter _) ?_).2 fun v => ?_
  · refine List.nodup_range.map_on fun p hp q hq heq => ?_
    rw [List.mem_range] at hp hq
    rw [← candidatePhase_sfidOfPhase (by omega : p < f.sfidModulus), heq,
      candidatePhase_sfidOfPhase (by omega)]
  · simp only [List.mem_filter, List.mem_range, List.mem_map, Option.isSome_iff_exists]
    constructor
    · rintro ⟨hv, p, hp⟩
      exact ⟨p, phaseOfSfid_eq_some hv hp⟩
    · rintro ⟨p, hp, rfl⟩
      exact ⟨f.sfidOfPhase_lt p, p, phaseOfSfid_sfidOfPhase hdepth hp⟩

theorem Format.countP_mapped_values {f : Format} (hdepth : f.depth ≤ f.sfidModulus) :
    (List.range f.sfidModulus).countP (fun v => (f.phaseOfSfid v).isSome) = f.depth := by
  rw [List.countP_eq_length_filter, (mapped_values_perm hdepth).length_eq, List.length_map,
    List.length_range]

theorem Format.countP_unmapped_values {f : Format} (hdepth : f.depth ≤ f.sfidModulus) :
    (List.range f.sfidModulus).countP (fun v => (f.phaseOfSfid v).isNone)
      = f.sfidModulus - f.depth := by
  have split := List.length_eq_countP_add_countP (fun v => (f.phaseOfSfid v).isSome)
    (l := List.range f.sfidModulus)
  simp only [List.length_range, countP_mapped_values hdepth, Bool.not_eq_true, Option.isSome_eq_false_iff,
    Bool.decide_eq_true] at split
  omega

/-! ### The obligation -/

/-- Settles O20: the candidate phase inverts `sfidOfPhase` below M, so DEPTH values map to a phase. -/
theorem sfidMapsPhasesOneToOne : Obligations.SfidMapsPhasesOneToOne := by
  intro s f M hdepth hbase
  exact ⟨fun p hp => Format.sfidOfPhase_eq_mod (hp.le.trans hdepth),
    fun v hv => Format.phaseOfSfid_of_candidatePhase (Format.candidatePhase_eq_mod hv.le hbase.le),
    fun p hp => ⟨f.sfidOfPhase_lt p, Format.phaseOfSfid_sfidOfPhase hdepth hp⟩,
    fun _ _ hv => Format.phaseOfSfid_eq_some hv, Format.countP_unmapped_values hdepth, rfl⟩

end Sys2Proof.Machine
end

section
/-! PROOF. Validation (R72): the scan of the positions is a search for the lowest one that fails, and the
default entry, examined first, joins it as location 0. -/

namespace Sys2Proof.Machine

/-! ### The fields of a map word (Table 12-3) -/

theorem bitField_eq (w : Word) (lo len : Nat) : bitField w lo len = w.toNat / 2 ^ lo % 2 ^ len := by
  rw [bitField, BitVec.extractLsb'_toNat, Nat.shiftRight_eq_div_pow]

theorem bitField_kind (w : Word) : bitField w 14 2 = w.toNat / 2 ^ 14 := by
  rw [bitField_eq, Nat.mod_eq_of_lt (by have := w.isLt; omega)]

theorem bitField_part (w : Word) : bitField w 8 2 = w.toNat / 256 % 4 := bitField_eq w 8 2

theorem bitField_list (w : Word) : bitField w 0 6 = w.toNat % 64 := by
  simp [bitField_eq]

theorem mapKind_cases (w : Word) :
    (bitField w 14 2 = 0 ∧ mapKind w = .ignore)
    ∨ (bitField w 14 2 = 1 ∧ mapKind w = .channel (bitField w 0 8) (partOf w))
    ∨ (bitField w 14 2 = 2 ∧ mapKind w = .subcom (bitField w 0 6))
    ∨ (bitField w 14 2 = 3 ∧ mapKind w = .inherit) := by
  have lt : bitField w 14 2 < 4 := (w.extractLsb' 14 2).isLt
  rw [mapKind]
  interval_cases bitField w 14 2 <;> simp

theorem partOf_eq_whole_iff (w : Word) : partOf w = .whole ↔ bitField w 8 2 = 0 := by
  rw [partOf]
  split <;> simp_all

/-! ### The fault of one location (Table 4-4) -/

theorem MapBank.positionFault_eq (k : MapBank) (j : Nat) :
    k.positionFault j =
      if bitField (k.mapWord j) 14 2 = 2 then k.listFault (bitField (k.mapWord j) 0 6) else none := by
  rcases mapKind_cases (k.mapWord j) with ⟨code, kind⟩ | ⟨code, kind⟩ | ⟨code, kind⟩ | ⟨code, kind⟩ <;>
    simp [positionFault, code, kind]

theorem MapBank.defaultFault_of_channel {k : MapBank} {c : Nat} {part : Part}
    (kind : mapKind (k.mapWord 0) = .channel c part) :
    k.defaultFault = if part = .whole then none else some .defaultPart := by
  cases part <;> simp [defaultFault, kind]

theorem MapBank.defaultFault_eq (k : MapBank) :
    k.defaultFault =
      if bitField (k.mapWord 0) 14 2 = 2 then k.listFault (bitField (k.mapWord 0) 0 6)
      else if bitField (k.mapWord 0) 14 2 = 3 then some .defaultInherit
      else if bitField (k.mapWord 0) 14 2 = 1 ∧ bitField (k.mapWord 0) 8 2 ≠ 0 then some .defaultPart
      else none := by
  rcases mapKind_cases (k.mapWord 0) with ⟨code, kind⟩ | ⟨code, kind⟩ | ⟨code, kind⟩ | ⟨code, kind⟩
  case inr.inl => simp [defaultFault_of_channel kind, partOf_eq_whole_iff, code]
  all_goals simp [defaultFault, code, kind]

/-- The fault of a location, the default entry standing at location 0 (Table 4-4). -/
def MapBank.locationFault (k : MapBank) (j : Nat) : Option FaultReason :=
  if j = 0 then k.defaultFault else k.positionFault j

theorem MapBank.locationFault_eq (k : MapBank) (j : Nat) :
    k.locationFault j =
      if bitField (k.mapWord j) 14 2 = 2 then k.listFault (bitField (k.mapWord j) 0 6)
      else if j = 0 ∧ bitField (k.mapWord j) 14 2 = 3 then some .defaultInherit
      else if j = 0 ∧ bitField (k.mapWord j) 14 2 = 1 ∧ bitField (k.mapWord j) 8 2 ≠ 0
        then some .defaultPart
      else none := by
  cases j with
  | zero => simp [locationFault, defaultFault_eq]
  | succ j => simp [locationFault, positionFault_eq]

/-! ### The scan finds the lowest failure -/

/-- The first fault among the locations from `lo` up to, but not at, `hi`; `none` says there is none. -/
def FirstIn (fault : Nat → Option FaultReason) (lo hi : Nat) : Option (Nat × FaultReason) → Prop
  | none => ∀ j, lo ≤ j → j < hi → fault j = none
  | some (j, r) => lo ≤ j ∧ j < hi ∧ fault j = some r ∧ ∀ i, lo ≤ i → i < j → fault i = none

theorem FirstIn.head {fault : Nat → Option FaultReason} {lo hi : Nat} {r : FaultReason} (hlt : lo < hi)
    (h : fault lo = some r) : FirstIn fault lo hi (some (lo, r)) :=
  ⟨le_rfl, hlt, h, fun _ hle hi => absurd hi (by omega)⟩

theorem FirstIn.of_tail {fault : Nat → Option FaultReason} {lo hi : Nat}
    {o : Option (Nat × FaultReason)} (h : fault lo = none) (tail : FirstIn fault (lo + 1) hi o) :
    FirstIn fault lo hi o := by
  have extend {b : Nat} (below : ∀ j, lo + 1 ≤ j → j < b → fault j = none) :
      ∀ j, lo ≤ j → j < b → fault j = none := by
    intro j hle hj
    rcases hle.eq_or_lt with rfl | hlt
    · exact h
    · exact below j hlt hj
  match o, tail with
  | none, below => exact extend below
  | some (j, r), ⟨hle, hlt, hr, below⟩ => exact ⟨by omega, hlt, hr, extend below⟩

/-- There is only one first fault: two would each rule the other out. -/
theorem FirstIn.unique {fault : Nat → Option FaultReason} {lo hi : Nat}
    {o o' : Option (Nat × FaultReason)} (h : FirstIn fault lo hi o) (h' : FirstIn fault lo hi o') :
    o = o' := by
  match o, o', h, h' with
  | none, none, _, _ => rfl
  | none, some (j, r), passes, ⟨hle, hlt, hr, _⟩ => simp [passes j hle hlt] at hr
  | some (j, r), none, ⟨hle, hlt, hr, _⟩, passes => simp [passes j hle hlt] at hr
  | some (j, r), some (j', r'), ⟨hle, _, hr, below⟩, ⟨hle', _, hr', below'⟩ =>
    rcases Nat.lt_trichotomy j j' with hlt | rfl | hgt
    · simp [below' j hle hlt] at hr
    · simp [Option.some.inj (hr.symm.trans hr')]
    · simp [below j' hle' hgt] at hr'

theorem MapBank.firstFault_firstIn (k : MapBank) (j n : Nat) :
    FirstIn k.locationFault (j + 1) (j + 1 + n) (k.firstFault (j + 1) n) := by
  induction n generalizing j with
  | zero => exact fun i hle hlt => absurd hlt (by omega)
  | succ n ih =>
    rw [firstFault]
    split
    case h_1 r hr => exact .head (by omega) hr
    case h_2 hnone => exact .of_tail hnone (by convert ih (j + 1) using 1; omega)

theorem MapBank.validate_firstIn (k : MapBank) : FirstIn k.locationFault 0 513 k.validate := by
  rw [validate]
  split
  case h_1 r hr => exact .head (by omega) hr
  case h_2 hnone => exact .of_tail hnone (k.firstFault_firstIn 0 512)

theorem MapBank.validate_eq_iff (k : MapBank) (o : Option (Nat × FaultReason)) :
    k.validate = o ↔ FirstIn k.locationFault 0 513 o :=
  ⟨fun h => h ▸ k.validate_firstIn, k.validate_firstIn.unique⟩

/-! ### The obligation -/

/-- Settles O23: the scan answers the first fault, and `locationFault_eq` spells a location's fault from
its map word. -/
theorem validationGivesTheFirstFailure : Obligations.ValidationGivesTheFirstFailure := by
  intro k listFault faultAt
  have agree : faultAt = k.locationFault := by
    funext j
    rw [k.locationFault_eq j, bitField_kind, bitField_part, bitField_list]
    rfl
  simp [agree, MapBank.validate_eq_iff, FirstIn, Nat.lt_succ_iff]

end Sys2Proof.Machine
end

section
/-! PROOF. The drop of an offer that does not fit (R136): when admission fails, and the stopping counters
written with a minimum. -/

namespace Sys2Proof.Machine

/-- An offer fails exactly when it would take the store past its 4096 words (R134, R135). -/
theorem RecordQueue.admits_eq_false_iff (q : RecordQueue) (len : Nat) :
    q.admits len = false ↔ 4096 < q.count + (if q.gapPending = 0 then 0 else 2) + len := by
  rw [admits, decide_eq_false_iff_not, Nat.not_le, Config.storeWords]

/-- The closed form of one increase, stopping at FFFFh (0.5 "Counters"). -/
theorem stopInc_eq_stopAdd_one (c : Word) : stopInc c = stopAdd c 1 :=
  BitVec.eq_of_toNat_eq (by rw [stopInc_toNat, stopAdd_toNat])

/-- Settles O39: admission fails, so `offer_dropped` gives the next state, its counters increased once. -/
theorem recordThatDoesNotFitIsDropped : Obligations.RecordThatDoesNotFitIsDropped := by
  intro r s full
  rw [offer_dropped r s ((s.queue.admits_eq_false_iff r.length).2 full),
    stopInc_eq_stopAdd_one, stopInc_eq_stopAdd_one]
  rfl

end Sys2Proof.Machine
end

section
/-! PROOF. CLEAR_COUNTERS (R179): what the command does with RESET# released, and the nine counters of five
blocks that its answer clears. -/

namespace Sys2Proof.Machine

/-- With RESET# released CLEAR_COUNTERS is answered as the code 09h written to CMD (R178). -/
theorem exec_clearCounters_released (s : State) (released : s.resetAsserted = false) :
    exec .clearCounters s = .next (answered 0x09 (.accepted, clearCounters s)) :=
  calc exec .clearCounters s
    _ = unlessReset (fun t => answered 0x09 (clearCountersCmd t)) s := rfl
    _ = .next (answered 0x09 (clearCountersCmd s)) := unlessReset_released _ s released

/-- The answer clears counters of five blocks. The Word Decoder's counters are four, all of them global, so
the record `clearCounters` builds anew for it is its old one with the four cleared. -/
theorem answered_clearCounters (code : BitVec 8) (r : CmdResult) (s : State) :
    answered code (r, clearCounters s) = { s with
      fs := { s.fs with slips := 0, syncMisses := 0 }
      dec := { s.dec with parityErrors := 0, joinFaults := 0, subcomSkips := 0, nulls := 0 }
      cap := { s.cap with abandoned := 0 }
      queue := { s.queue with dropped := 0 }
      host := { s.host with errCount := 0, cmdCode := code, cmdResult := r } } := rfl

/-- Settles O52: the command is accepted whenever RESET# is released, and its answer is
`answered_clearCounters`. -/
theorem clearCountersZeroesTheNineCounters : Obligations.ClearCountersZeroesTheNineCounters := by
  intro s released
  rw [exec_clearCounters_released s released, answered_clearCounters]

end Sys2Proof.Machine
end

section
/-! PROOF. What a command does: its effect with RESET# released, and the few things that can happen to
the machine with RESET# asserted (R172, R178, R180). -/

namespace Sys2Proof.Machine

/-- What a command does with RESET# released. -/
def effectOf (c : Instr) (s : State) : State :=
  match c with
  | .resetAssert => { s with resetAsserted := true }
  | .resetRelease => powerOn s
  | .bitArrival edge level => if edge = s.fmt.clockEdge then acceptBit level s else s
  | .clockLoss => loseClock s
  | .validationEnd => endValidation s
  | .portStallExpiry => expireStall s
  | .portRecordBegin rdy => portBegin rdy s
  | .portWordBoundary rdy => portBoundary rdy s
  | .portPauseEnd => endPause s
  | .portBitDrive => portBit s
  | .start => answered 0x01 (startCmd s)
  | .stop => answered 0x02 (stopCmd s)
  | .resync => answered 0x03 (resyncCmd s)
  | .swap => answered 0x04 (swapCmd s)
  | .cancelSwap => answered 0x05 (cancelSwapCmd s)
  | .qflush => answered 0x06 (qflushCmd s)
  | .skipRecord => answered 0x07 (skipCmd s)
  | .clearChannels => answered 0x08 (clearChannelsCmd s)
  | .clearCounters => answered 0x09 (clearCountersCmd s)
  | .softReset => answered 0x0A (softResetCmd s)
  | .unnamedCommandCode value => writeCmd value s
  | .formatRegisterWrite addr value => hostWrite addr value s
  | .clklossUsWrite value => writeClkloss value s
  | .qdataRead => readQdata s
  | .tspaceWrite value => writeTspace value s
  | .tindexWrite value => writeTindex value s
  | .tdataRead => readTdata s
  | .tdataWrite value => writeTdata value s
  | .routeWrite value => writeRoute value s
  | .captureWrite value => writeCapture value s
  | .portConfigWrite value => writePortConfig value s
  | .latchedStatusWrite value => writeLatched value s
  | .markHitsWrite value => writeMarkHits value s
  | .registerWrite addr value => hostWrite addr value s

/-- The two commands of RESET# act whatever it does, the two reads with a side effect drive nothing under
it, and every other command waits for its release. -/
theorem exec_eq (c : Instr) (s : State) :
    exec c s = match c with
      | .resetAssert | .resetRelease => .next (effectOf c s)
      | .qdataRead | .tdataRead => hostRead (effectOf c) s
      | _ => unlessReset (effectOf c) s := by
  cases c <;> rfl

/-- With RESET# released every command has its effect whole. -/
theorem exec_released (c : Instr) (s : State) (released : s.resetAsserted = false) :
    exec c s = .next (effectOf c s) := by
  rw [exec_eq]
  split
  case h_1 | h_2 => rfl
  case h_3 | h_4 => simp [hostRead, released]
  case h_5 => exact unlessReset_released _ s released

/-- With RESET# asserted only the release acts, and a read drives nothing (log 5). -/
theorem exec_asserted (c : Instr) (s : State) (asserted : s.resetAsserted = true)
    (other : c ≠ .resetRelease) :
    exec c s = .next
      (if c = .qdataRead ∨ c = .tdataRead
        then { s with host := { s.host with dataBus := none } } else s) := by
  rw [exec_eq]
  split
  case h_1 => simp [effectOf, ← asserted]
  case h_2 => exact absurd rfl other
  case h_3 | h_4 => simp [hostRead, asserted]
  case h_5 notAssert notRelease notQdata notTdata =>
    rw [unlessReset_asserted _ s asserted, if_neg (not_or.mpr ⟨notQdata, notTdata⟩)]

/-- Settles O1: `step` matches on the queue. -/
theorem stepRunsFrontCommand : Obligations.StepRunsFrontCommand := fun _ _ _ => rfl

/-- Settles O4: the pins are views that look at the mark first, and `exec_asserted` speaks of the
commands. -/
theorem resetHeldQuietsTheBlock : Obligations.ResetHeldQuietsTheBlock := by
  intro s
  refine ⟨⟨_, rfl, rfl, ?_⟩, fun asserted c other => exec_asserted c s asserted other,
    fun asserted rdy addr => readRegister_asserted rdy addr s asserted⟩
  simp [State.intPin, State.roFrm, State.roDat, State.roClkHalfPeriod]

end Sys2Proof.Machine
end

section
/-! PROOF. The frame format registers (R4, R5, R11, Table 1-2): what a written word asks for, and that it is
taken exactly when every field of the register is in range. -/

namespace Sys2Proof.Machine

theorem RunState.idle_iff (r : RunState) : r = .idle ↔ r ≠ .run := by cases r <;> decide

theorem bitField_lt (w : Word) (lo len : Nat) : bitField w lo len < 2 ^ len :=
  (w.extractLsb' lo len).isLt

theorem inRange_iff (lo hi n : Nat) : inRange lo hi n = true ↔ lo ≤ n ∧ n ≤ hi := by
  simp [inRange]

/-- The format that a write asks for: the register's fields as the word has them (Table 12-1). -/
def Format.asked (f : Format) (addr : Nat) (w : Word) : Format :=
  match addr with
  | 0x08 => { f with syncPattern := setWord48 f.syncPattern 0 w }
  | 0x09 => { f with syncPattern := setWord48 f.syncPattern 1 w }
  | 0x0A => { f with syncPattern := setWord48 f.syncPattern 2 w }
  | 0x0B => { f with syncMask := setWord48 f.syncMask 0 w }
  | 0x0C => { f with syncMask := setWord48 f.syncMask 1 w }
  | 0x0D => { f with syncMask := setWord48 f.syncMask 2 w }
  | 0x0E => { f with syncLen := bitField w 0 6, tolSearch := bitField w 6 3
                     tolCheck := bitField w 9 3, tolLock := bitField w 12 3 }
  | 0x0F => { f with wpf := bitField w 0 10, wlen := bitField w 10 5 }
  | 0x10 => { f with checkCount := bitField w 0 4, lockMiss := bitField w 4 4
                     sfCheckCount := bitField w 8 3, sfMiss := bitField w 12 4 }
  | 0x11 => { f with depth := bitField w 0 9, slipWin := bitField w 9 2
                     inputInvert := bitAt w 11, clockEdge := edgeOf (bitAt w 12) }
  | 0x12 => { f with sfidPos := bitField w 0 10, sfidDir := if bitAt w 10 then .down else .up }
  | 0x13 => { f with sfidLsb := bitField w 0 4, sfidWidth := bitField w 4 4
                     sfidBase := bitField w 8 8 }
  | _ => f

/-- A register that is taken when its fields are in range is taken exactly when the format asked for is in
range. -/
theorem taken_iff {inside : Bool} {asked g : Format} (agree : inside = true ↔ asked.InRange) :
    (if inside then some asked else none) = some g ↔ g = asked ∧ asked.InRange := by
  rw [Option.ite_none_right_eq_some, Option.some_inj, agree, eq_comm, and_comm]

/-- A write in the range of the format registers takes what it asks for, or is refused where that is out of
range (R5). -/
theorem Format.write_eq_some_iff {f g : Format} (h : f.InRange) {addr : Nat} (lo : 0x08 ≤ addr)
    (hi : addr ≤ 0x13) (w : Word) :
    f.write addr w = some g ↔ g = f.asked addr w ∧ (f.asked addr w).InRange := by
  have bits := bitField_lt w
  have oneWord {asked : Format} (sound : asked.InRange) :
      some asked = some g ↔ g = asked ∧ asked.InRange :=
    ⟨fun taken => ⟨(Option.some.inj taken).symm, sound⟩, fun e => congrArg some e.1.symm⟩
  interval_cases addr
  -- One word of SYNC_PATTERN or SYNC_MASK: every value is in range.
  · exact oneWord h
  · exact oneWord h
  · exact oneWord h
  · exact oneWord h
  · exact oneWord h
  · exact oneWord h
  · have := bits 0 6; have := bits 6 3; have := bits 9 3; have := bits 12 3
    exact taken_iff (by simp only [inRange_iff, InRange] at h ⊢; omega)
  · exact taken_iff (by simp only [Bool.and_eq_true, inRange_iff, InRange] at h ⊢; omega)
  · exact taken_iff (by simp only [Bool.and_eq_true, inRange_iff, InRange] at h ⊢; omega)
  · exact taken_iff (by simp only [Bool.and_eq_true, inRange_iff, InRange] at h ⊢; omega)
  · exact taken_iff (by simp only [inRange_iff, InRange] at h ⊢; omega)
  · have := bits 0 4; have := bits 8 8
    exact taken_iff (by simp only [inRange_iff, InRange] at h ⊢; omega)

/-- A write taken at any address leaves a format in range. -/
theorem Format.write_inRange {f g : Format} {addr : Nat} {w : Word} (taken : f.write addr w = some g)
    (h : f.InRange) : g.InRange := by
  by_cases inside : 0x08 ≤ addr ∧ addr ≤ 0x13
  · obtain ⟨rfl, ok⟩ := (f.write_eq_some_iff h inside.1 inside.2 w).1 taken
    exact ok
  · unfold write at taken
    split at taken <;> simp_all

theorem Format.clklossUs_inRange {f : Format} (h : f.InRange) (w : Word) :
    Format.InRange { f with clklossUs := w.toNat } := by
  have := w.isLt
  simp only [InRange] at h ⊢
  omega

end Sys2Proof.Machine
end

section
/-! PROOF. What a step can do to the state that the invariants of Safety.lean speak of: one row for each
kind of change, and every step as a chain of them. Each invariant is then a case analysis of the rows. -/

namespace Sys2Proof.Machine

/-- The state with everything blanked that no invariant speaks of: the marks, counters, timers, enables
and host registers, and what only the host reads. -/
def State.work (s : State) : State :=
  { s with
    resetAsserted := false, clock := {}, dec := {}, ev := {}, host := {}, order := 0, pending := []
    fs := { s.fs with slips := 0, syncMisses := 0 }
    map := { s.map with fault := {} }
    prof := { s.prof with staging := none }
    chan := { s.chan with latch := none }
    cap := { s.cap with every := 0, countdown := 0, abandoned := 0 }
    queue := { s.queue with dropped := 0, threshold := 0 }
    port := { s.port with stall := .stopped, stallExpired := false, portDiv := 0, stallMs := 0 } }

/-- Words of a bank's space (Table 4-2). -/
def BankSpace.words : BankSpace → Nat
  | .map => Config.mapWords
  | .lists => Config.listWords
  | .pool => Config.poolWords

/-- One kind of change for each row. -/
inductive Effect (s : State) : State → Prop
  /-- Nothing that an invariant speaks of. -/
  | aside {t : State} (same : t.work = s.work) : Effect s t
  | powerOn : Effect s (powerOn s)
  | softReset : Effect s (softReset s)
  | bit (b : Bool) : Effect s (syncBit b s)
  | abandonTiming (reason : LostReason) : Effect s (abandonTiming reason s)
  | emptyHistory : Effect s { s with fs := s.fs.emptyHistory }
  | enterRun (idle : s.run = .idle) : Effect s (enterRun s)
  | leaveRun : Effect s (leaveRun s)
  | format {f : Format} (idle : s.run = .idle) (inRange : s.fmt.InRange → f.InRange) :
      Effect s { s with fmt := f }
  | endValidation : Effect s (endValidation s)
  | setSwap (w : SwapState) (notPending : w ≠ .pending) : Effect s (setSwap w s)
  | writeBank {which : Bank} {sp : BankSpace} {k : Nat} {w : Word} (role : which ≠ s.map.active)
      (editable : s.map.swap = .editable) (inside : k < sp.words) :
      Effect s { s with map := s.map.setBank which ((s.map.bank which).writeSpace sp k w) }
  | commit {n : Nat} {p : Profile} (number : n < 16) : Effect s { s with prof := s.prof.commit n p }
  | writeChannel {c : Nat} (w : Word) (number : c < Config.channels) :
      Effect s { s with chan := s.chan.setEntry c ((s.chan.entry c).writeWord0 w) }
  | clearChannels : Effect s { s with chan := s.chan.clearAll }
  | popWord (pops : s.queue.pops = true) : Effect s (settleRoute { s with queue := s.queue.consume })
  | skipHead (accepted : s.queue.refusesSkip = false) : Effect s (skipHead s)
  | flushQueue : Effect s (flushQueue s)
  | writeRoute (w : Word) : Effect s (writeRoute w s)
  | beginRecord (waits : s.port.mode = .sending ∧ s.queue.begun = false ∨ s.port.mode = .paused) :
      Effect s (beginRecord s)
  | pause (waits : s.port.mode = .sending ∧ s.queue.begun = false) :
      Effect s { s with port := s.port.pause }
  | driveBit {n : Nat} (dat : Bool) (flight : s.port.inFlight = some n) (more : n < 15) :
      Effect s { s with port := { s.port with inFlight := some (n + 1), dat := dat } }
  | endHead (boundary : s.atBoundary = true) (last : s.queue.lastWord = true) : Effect s (endHead s)
  | nextInRecord (rdy : Bool) (boundary : s.atBoundary = true) (more : s.queue.lastWord = false) :
      Effect s (nextInRecord rdy s)

/-- A chain of changes. -/
abbrev Effects : State → State → Prop := Relation.ReflTransGen Effect

theorem Effects.aside {s t : State} (same : t.work = s.work) : Effects s t := .single (.aside same)

/-- A chain that ends aside: the host's registers, say, take what the change brought. -/
theorem Effects.then_aside {s t u : State} (chain : Effects s t) (same : u.work = t.work) :
    Effects s u := chain.tail (.aside same)

theorem Effects.after_aside {s t u : State} (same : t.work = s.work) (change : Effect t u) :
    Effects s u := .head (.aside same) (.single change)

/-! ### Bits, timers, the end of a validation, the port -/

theorem acceptBit_effects (level : Bool) (s : State) : Effects s (acceptBit level s) :=
  .after_aside (t := { s with clock := .edge s.clockExpires s.fmt.clklossUs }) rfl (.bit _)

theorem clockLost_effects (s : State) : Effects s (clockLost s) := by
  unfold clockLost
  dsimp only
  have abandoned := Effects.after_aside (s := s) (t := { s with
      clock := { present := false, timer := .stopped }
      ev := s.ev.latch .clockLoss }) rfl (.abandonTiming .clock)
  split
  · exact abandoned
  · exact abandoned.tail .emptyHistory

theorem loseClock_effects (s : State) : Effects s (loseClock s) := by
  rcases loseClock_cases s with ⟨-, lost⟩ | ⟨-, -, same⟩
  · rw [lost]; exact clockLost_effects s
  · rw [same]

theorem expireStall_effects (s : State) : Effects s (expireStall s) := by
  rcases expireStall_cases s with ⟨-, stalled⟩ | ⟨-, same⟩
  · rw [stalled]; exact .aside rfl
  · rw [same]

theorem portBegin_effects (rdy : Bool) (s : State) : Effects s (portBegin rdy s) := by
  unfold portBegin
  split
  · rename_i waits
    cases rdy
    · exact .single (.pause waits)
    · exact .single (.beginRecord (.inl waits))
  · exact .refl

theorem portBit_effects (s : State) : Effects s (portBit s) := by
  unfold portBit
  split
  · rename_i n flight
    split
    · rename_i more
      exact .single (.driveBit _ flight more.2)
    · exact .refl
  · exact .refl

theorem portBoundary_effects (rdy : Bool) (s : State) : Effects s (portBoundary rdy s) := by
  unfold portBoundary
  split
  · rename_i boundary
    split
    · rename_i last
      exact .single (.endHead boundary last)
    · rename_i more
      exact .single (.nextInRecord rdy boundary (Bool.eq_false_iff.mpr more))
  · exact .refl

theorem endPause_effects (s : State) : Effects s (endPause s) := by
  unfold endPause
  split
  · rename_i paused
    exact .single (.beginRecord (.inr paused))
  · exact .refl

/-! ### Commands -/

/-- An answered command is its effect, and CMD_RESULT aside. -/
theorem answered_effects (code : BitVec 8) {s : State} {r : CmdResult × State}
    (chain : Effects s r.2) : Effects s (answered code r) := chain.then_aside rfl

theorem refuseIf_effects (refused : Bool) (result : CmdResult) (effect : State → State) (s : State)
    (chain : refused = false → Effects s (effect s)) :
    Effects s (refuseIf refused result effect s).2 := by
  cases refused
  · exact chain rfl
  · exact .refl

theorem startCmd_effects (s : State) : Effects s (startCmd s).2 := by
  unfold startCmd
  split
  · exact .refl
  · rename_i notRun
    split
    · exact .single (.enterRun (s.run.idle_iff.2 notRun))
    · exact .refl

theorem commandOf_effects (code : BitVec 8) (s : State) : Effects s (commandOf code s).2 := by
  unfold commandOf
  split
  case h_1 => exact startCmd_effects s
  case h_2 => exact refuseIf_effects _ _ _ s fun _ => .single .leaveRun
  case h_3 => exact refuseIf_effects _ _ _ s fun _ => .single (.abandonTiming .resync)
  case h_4 => exact refuseIf_effects _ _ _ s fun _ => .single (.setSwap _ nofun)
  case h_5 => exact refuseIf_effects _ _ _ s fun _ => .single (.setSwap _ nofun)
  case h_6 => exact .single .flushQueue
  case h_7 => exact refuseIf_effects _ _ _ s fun accepted => .single (.skipHead accepted)
  case h_8 => exact .single .clearChannels
  case h_9 => exact .aside rfl
  case h_10 => exact .single .softReset
  case h_11 => exact .refl

/-! ### The Table Access Port -/

/-- A bank write is accepted only for the EDITABLE standby bank (R67, R68). -/
theorem MapStore.writeError_none {m : MapStore} {which : Bank} {sp : BankSpace} {k : Nat} {w : Word}
    (accepted : m.writeError which sp k w = none) :
    which ≠ m.active ∧ m.swap = .editable ∧ sp.valid k w = true := by
  simp only [writeError] at accepted
  split at accepted
  · cases accepted
  · rename_i role
    split at accepted
    · cases accepted
    · rename_i editable
      split at accepted
      · cases accepted
      · rename_i valid
        exact ⟨role, not_not.mp editable, by simpa using valid⟩

theorem writeBank_effects (which : Bank) {sp : BankSpace} {k : Nat} (inside : k < sp.words) (w : Word)
    (s : State) : Effects s (writeBank which sp k w s) := by
  unfold writeBank
  split
  · exact .aside rfl
  · rename_i accepted
    obtain ⟨role, editable, -⟩ := MapStore.writeError_none accepted
    exact .single (.writeBank role editable inside)

theorem writeProfile_effects {k : Nat} (inside : k < Config.profileWords) (w : Word) (s : State) :
    Effects s (writeProfile k w s) := by
  unfold writeProfile
  split
  · split
    · exact .single (.commit (by rw [Config.profileWords] at inside; omega))
    · exact .aside rfl
  · exact .aside rfl

theorem writeChannel_effects {k : Nat} (inside : k < Config.channelWords) (w : Word) (s : State) :
    Effects s (writeChannel k w s) := by
  unfold writeChannel
  split
  · exact .single (.writeChannel w (by rw [Config.channelWords] at inside; rw [Config.channels]; omega))
  · exact .aside rfl

theorem writeTable_effects {sp : Space} {k : Nat} (inside : k < sp.words) (w : Word) (s : State) :
    Effects s (writeTable sp k w s) := by
  cases sp
  case mapA | mapB | listsA | listsB | poolA | poolB => exact writeBank_effects _ inside w s
  case profiles => exact writeProfile_effects inside w s
  case channels => exact writeChannel_effects inside w s
  case summary => exact .aside rfl

@[simp] theorem ChannelTable.atIndex_entries (t : ChannelTable) (k : Nat) :
    (t.atIndex k).entries = t.entries := by
  unfold atIndex
  split
  · split <;> rfl
  · rfl

@[simp] theorem latchFor_entries (sp : Space) (k : Nat) (t : ChannelTable) :
    (latchFor sp k t).entries = t.entries := by
  cases sp
  case channels =>
    unfold latchFor ChannelTable.latchAtRead
    dsimp only
    split <;> rfl
  all_goals rfl

/-- A step of TINDEX concerns the snapshot latch and TINDEX alone (R114). -/
theorem setIndex_work (k : Nat) (s : State) : (setIndex k s).work = s.work := by
  simp [State.work, setIndex]

theorem writeTdata_effects (w : Word) (s : State) : Effects s (writeTdata w s) := by
  unfold writeTdata
  split
  · rename_i inside
    exact (writeTable_effects (of_decide_eq_true inside) w s).then_aside (setIndex_work _ _)
  · exact .aside rfl

theorem readTdata_effects (s : State) : Effects s (readTdata s) := by
  unfold readTdata
  split
  · exact .aside (by simp [State.work, driveBus, setIndex])
  · exact .aside rfl

theorem writeTspace_effects (w : Word) (s : State) : Effects s (writeTspace w s) := by
  unfold writeTspace
  dsimp only
  split <;> exact .aside rfl

/-! ### Register writes -/

theorem writeFormat_effects (addr : Nat) (w : Word) (s : State) : Effects s (writeFormat addr w s) := by
  unfold writeFormat
  split
  · exact .aside rfl
  · rename_i notRun
    split
    · rename_i f taken
      exact .single (.format (s.run.idle_iff.2 notRun) (Format.write_inRange taken))
    · exact .aside rfl

theorem writeClkloss_effects (w : Word) (s : State) : Effects s (writeClkloss w s) := by
  unfold writeClkloss
  split
  · exact .aside rfl
  · rename_i notRun
    exact .then_aside (t := { s with fmt := { s.fmt with clklossUs := w.toNat } })
      (.single (.format (s.run.idle_iff.2 notRun) (Format.clklossUs_inRange · w))) rfl

theorem hostWrite_effects (addr : BitVec 6) (w : Word) (s : State) :
    Effects s (hostWrite addr w s) := by
  unfold hostWrite
  split
  case h_1 => exact answered_effects _ (commandOf_effects _ s)
  case h_2 => exact writeTspace_effects w s
  case h_3 => exact .aside (setIndex_work _ s)
  case h_4 => exact writeTdata_effects w s
  case h_17 => exact writeClkloss_effects w s
  case h_19 =>
    unfold writeThreshold
    split <;> exact .aside rfl
  case h_20 => exact .single (.writeRoute w)
  case h_27 | h_28 | h_29 | h_30 =>
    unfold writeMarkPos
    split <;> exact .aside rfl
  case h_18 | h_21 | h_22 | h_23 | h_24 | h_25 | h_26 | h_31 | h_32 | h_33 | h_34 | h_35 | h_36 =>
    exact .aside rfl
  all_goals exact writeFormat_effects _ w s

theorem readQdata_effects (s : State) : Effects s (readQdata s) := by
  unfold readQdata
  split
  · rename_i pops
    exact .then_aside (.single (.popWord pops)) rfl
  · exact .aside rfl

/-! ### Every step -/

theorem effectOf_effects (c : Instr) (s : State) : Effects s (effectOf c s) := by
  cases c
  case resetAssert | captureWrite | portConfigWrite | latchedStatusWrite | markHitsWrite =>
    exact .aside rfl
  case resetRelease => exact .single .powerOn
  case bitArrival edge level =>
    dsimp only [effectOf]
    split
    · exact acceptBit_effects level s
    · exact .refl
  case clockLoss => exact loseClock_effects s
  case validationEnd => exact .single .endValidation
  case portStallExpiry => exact expireStall_effects s
  case portRecordBegin rdy => exact portBegin_effects rdy s
  case portWordBoundary rdy => exact portBoundary_effects rdy s
  case portPauseEnd => exact endPause_effects s
  case portBitDrive => exact portBit_effects s
  case clklossUsWrite w => exact writeClkloss_effects w s
  case qdataRead => exact readQdata_effects s
  case tspaceWrite w => exact writeTspace_effects w s
  case tindexWrite => exact .aside (setIndex_work _ s)
  case tdataRead => exact readTdata_effects s
  case tdataWrite w => exact writeTdata_effects w s
  case routeWrite w => exact .single (.writeRoute w)
  case formatRegisterWrite addr w | registerWrite addr w => exact hostWrite_effects addr w s
  case start => exact answered_effects _ (commandOf_effects 0x01 s)
  case stop => exact answered_effects _ (commandOf_effects 0x02 s)
  case resync => exact answered_effects _ (commandOf_effects 0x03 s)
  case swap => exact answered_effects _ (commandOf_effects 0x04 s)
  case cancelSwap => exact answered_effects _ (commandOf_effects 0x05 s)
  case qflush => exact answered_effects _ (commandOf_effects 0x06 s)
  case skipRecord => exact answered_effects _ (commandOf_effects 0x07 s)
  case clearChannels => exact answered_effects _ (commandOf_effects 0x08 s)
  case clearCounters => exact answered_effects _ (commandOf_effects 0x09 s)
  case softReset => exact answered_effects _ (commandOf_effects 0x0A s)
  case unnamedCommandCode w => exact answered_effects _ (commandOf_effects _ s)

theorem exec_effects {c : Instr} {s t : State} (next : exec c s = .next t) : Effects s t := by
  cases reset : s.resetAsserted
  · rw [exec_released c s reset] at next
    cases next
    exact effectOf_effects c s
  · by_cases release : c = .resetRelease
    · subst release
      cases next
      exact .single .powerOn
    · rw [exec_asserted c s reset release] at next
      cases next
      split
      · exact .aside rfl
      · exact .refl

theorem idleTick_effects (s : State) : Effects s (idleTick s) := by
  have clock : Effects s (tickClock s) := by
    unfold tickClock
    split
    · exact clockLost_effects s
    · exact .aside rfl
  have stall (u : State) : (tickStall u).work = u.work := by
    unfold tickStall
    split <;> rfl
  unfold idleTick
  split
  · exact .refl
  · exact clock.then_aside (stall _)

/-- Every step is a chain of the changes that `Effect` lists. -/
theorem step_effects {s t : State} (next : step s = .next t) : Effects s t := by
  unfold step at next
  split at next
  · cases next
    exact idleTick_effects s
  · rename_i rest _
    exact .head (.aside (t := { s with pending := rest }) rfl) (exec_effects next)

/-- What every change keeps, every step keeps. -/
theorem step_keeps {Inv : State → Prop} (keeps : ∀ {s t}, Effect s t → Inv s → Inv t) {s t : State}
    (next : step s = .next t) (h : Inv s) : Inv t := by
  have chain := step_effects next
  clear next
  induction chain with
  | refl => exact h
  | tail _ change ih => exact keeps change ih

end Sys2Proof.Machine
end

section
/-! PROOF. The machine right after reset (R180): every block at its power-on values, and every invariant. -/

namespace Sys2Proof.Machine

theorem State.reset_memoriesCanonical : State.reset.MemoriesCanonical :=
  ⟨⟨Memory.wf_nil _ _, Memory.wf_nil _ _, Memory.wf_nil _ _⟩,
    ⟨Memory.wf_nil _ _, Memory.wf_nil _ _, Memory.wf_nil _ _⟩, Memory.wf_nil _ _, Memory.wf_nil _ _⟩

/-- A bank of IGNORE entries passes its validation. -/
theorem MapBank.valid_powerOn : ({} : MapBank).Valid := by
  refine (MapBank.validate_eq_iff _ none).2 fun j _ _ => ?_
  have ignore : bitField (({} : MapBank).mapWord j) 14 2 = 0 := by
    simp [mapWord, Memory.read, mapPowerOn, bitField]
  simp [locationFault_eq, ignore]

theorem State.reset_banksSafe : State.reset.BanksSafe := ⟨MapBank.valid_powerOn, nofun⟩

theorem State.reset_outputSafe : State.reset.OutputSafe := by
  simp [State.OutputSafe, RecordQueue.Sound, State.reset, RecordQueue.count]

theorem State.reset_overrunSafe : State.reset.OverrunSafe := nofun

theorem State.reset_syncSafe : State.reset.SyncSafe := by
  unfold State.SyncSafe Format.InRange
  decide

theorem State.reset_phaseSafe : State.reset.PhaseSafe := by
  simp [State.PhaseSafe, State.reset]

theorem State.reset_frameWorkSafe : State.reset.FrameWorkSafe := by
  rintro (capture | ⟨p, listed, -⟩)
  · exact absurd rfl capture
  · exact nomatch listed

/-- Settles O55: invariant by invariant. -/
theorem resetMeetsEveryInvariant : Obligations.ResetMeetsEveryInvariant :=
  ⟨State.reset_memoriesCanonical, State.reset_banksSafe, State.reset_outputSafe,
    State.reset_overrunSafe, State.reset_syncSafe, State.reset_phaseSafe, State.reset_frameWorkSafe,
    nofun, nofun⟩

/-! ### Power-on values -/

theorem powerOn_bank (s : State) (which : Bank) : (powerOn s).map.bank which = {} := by
  cases which <;> rfl

theorem powerOn_marker (s : State) (n : Nat) : (powerOn s).ev.marker n = {} := by
  unfold EventUnit.marker
  split <;> rfl

theorem Profile.powerOn_words :
    ({} : Profile).word 0 = 0x0080 ∧ ({} : Profile).word 1 = 0x1000 ∧ ({} : Profile).word 2 = 0x0000
      ∧ ({} : Profile).word 3 = 0x0000 := by decide

theorem ChannelEntry.powerOn_words :
    ({} : ChannelEntry).words = [0x0001, 0, 0, 0, 0x00FF, 0, 0, 0] := by decide

theorem State.reset_pins :
    State.reset.levelStatus = 0b000010 ∧ State.reset.intPin = .released := by decide

/-- Settles O5: the fields of `powerOn` one by one. -/
theorem resetReleaseTakesPowerOnValues : Obligations.ResetReleaseTakesPowerOnValues := by
  intro s
  refine ⟨powerOn s, rfl, rfl, rfl, rfl, rfl, rfl, rfl, rfl, rfl, rfl, rfl, rfl, rfl, rfl, rfl, rfl,
    fun which k => ?_, rfl, rfl, rfl, fun n => Profile.powerOn_words, rfl, rfl, fun c => ChannelEntry.powerOn_words, rfl, rfl, rfl, rfl, rfl, rfl,
    rfl, rfl, rfl, rfl, rfl, rfl, rfl, rfl, rfl, rfl, rfl, fun n => powerOn_marker s n,
    State.reset_pins.1, State.reset_pins.2, rfl, rfl, rfl, rfl, rfl, rfl⟩
  rw [powerOn_bank]
  exact ⟨rfl, rfl, rfl⟩

end Sys2Proof.Machine
end

section
/-! PROOF. One bit at the Frame Synchronizer (R18 to R29), an equation for each sync state and place in the
frame, and what of the machine no bit changes. -/

namespace Sys2Proof.Machine

/-- The state with a bit in the history (R18). -/
def State.pushed (bit : Bool) (s : State) : State := { s with fs := s.fs.push bit }

/-- The state with a bit in the history and the frame offset one on (R21). -/
def State.advanced (bit : Bool) (s : State) : State :=
  { s with fs := { s.fs.push bit with offset := s.fs.offset + 1 } }

/-- The frame offset of the expected sync end, before the slip window (R21). -/
def Format.syncEnd (f : Format) : Nat := f.frameLength + f.syncLen - 1

theorem SyncState.inLock_iff (y : SyncState) : y.inLock = true ↔ y = .lock ∨ y = .coast := by
  simp [inLock]

theorem syncBit_off {s : State} (off : s.fs.sync = .off) (bit : Bool) : syncBit bit s = s := by
  simp [syncBit, off]

theorem syncBit_search {s : State} (search : s.fs.sync = .search) (bit : Bool) :
    syncBit bit s = searchBit (s.pushed bit) := by
  simp [syncBit, search, State.pushed]

theorem syncBit_check_inside {s : State} (check : s.fs.sync = .check)
    (inside : s.fs.offset + 1 ≠ s.fmt.syncEnd) (bit : Bool) :
    syncBit bit s = deliverWord (s.advanced bit) := by
  rw [Format.syncEnd] at inside
  simp [syncBit, check, inside, State.advanced]

theorem syncBit_check_end {s : State} (check : s.fs.sync = .check)
    (atEnd : s.fs.offset + 1 = s.fmt.syncEnd) (bit : Bool) :
    syncBit bit s = checkInCheck (s.advanced bit) := by
  rw [Format.syncEnd] at atEnd
  simp [syncBit, check, atEnd, State.advanced]

theorem syncBit_lock_inside {s : State} (inLock : s.fs.sync.inLock = true)
    (inside : s.fs.offset + 1 ≠ s.fmt.syncEnd + s.fmt.slipWin) (bit : Bool) :
    syncBit bit s = deliverWord (s.advanced bit) := by
  rw [Format.syncEnd] at inside
  rcases s.fs.sync.inLock_iff.1 inLock with y | y <;> simp [syncBit, y, inside, State.advanced]

theorem syncBit_lock_end {s : State} (inLock : s.fs.sync.inLock = true)
    (atEnd : s.fs.offset + 1 = s.fmt.syncEnd + s.fmt.slipWin) (bit : Bool) :
    syncBit bit s = checkInLock (s.advanced bit) := by
  rw [Format.syncEnd] at atEnd
  rcases s.fs.sync.inLock_iff.1 inLock with y | y <;> simp [syncBit, y, atEnd, State.advanced]

/-! ### What frame starts, entries into SEARCH and completed words leave -/

@[simp] theorem startFrame_sf (fs : FrameSync) (slip : Int) (first : Bool) (events : List Event)
    (s : State) :
    (startFrame fs slip first events s).sf = s.sf.frameStart s.fmt fs.decodedMark := by
  simp [startFrame]

theorem startFrame_map (fs : FrameSync) (slip : Int) (first : Bool) (events : List Event) (s : State) :
    (startFrame fs slip first events s).map = s.map.swappedIf
      (s.map.takesAtFrameStart s.fmt.depth (phaseAtStart fs.decodedMark s)) := by
  simp only [startFrame, handEvents_map]

theorem startFrame_cap (fs : FrameSync) (slip : Int) (first : Bool) (events : List Event) (s : State) :
    (startFrame fs slip first events s).cap = s.cap.frameStart
      { fsn := fs.fsn, decoded := fs.decodedMark, coast := fs.coastMark, slip := slip, first := first }
      (phaseAtStart fs.decodedMark s) := by
  simp only [startFrame, handEvents_cap]

@[simp] theorem enterSearch_sf (events : List Event) (s : State) :
    (enterSearch events s).sf = s.sf.timingLost s.fmt := by simp [enterSearch]

theorem enterSearch_map (events : List Event) (s : State) :
    (enterSearch events s).map = s.map.swappedIf s.map.isPending := by
  simp only [enterSearch, handEvents_map]

theorem takeSwap_map (s : State) : (takeSwap s).map = s.map.swapped := by
  simp only [takeSwap, handEvents_map]

@[simp] theorem wordComplete_sf (k : Nat) (s : State) :
    (wordComplete k s).sf = (s.sf.wordComplete s.fmt k (s.fs.rawWord s.fmt.wlen)).1 := by
  simp [wordComplete, reactToWord, State.wordInfo]

@[simp] theorem wordComplete_cap (k : Nat) (s : State) :
    (wordComplete k s).cap = s.cap.wordComplete (decide (k = s.fmt.wpf)) (s.map.captures k)
      (s.fs.rawWord s.fmt.wlen) := by
  simp [wordComplete, reactToWord, State.wordInfo]

/-! ### Every bit -/

/-- Everything a bit can bring about at the Frame Synchronizer. -/
theorem syncBit_cases (bit : Bool) (s : State) :
    (s.fs.sync = .off ∧ syncBit bit s = s)
    ∨ (s.fs.sync = .search ∧ syncBit bit s = searchBit (s.pushed bit))
    ∨ (s.fs.sync = .check ∧ s.fs.offset + 1 ≠ s.fmt.syncEnd
        ∧ syncBit bit s = deliverWord (s.advanced bit))
    ∨ (s.fs.sync = .check ∧ s.fs.offset + 1 = s.fmt.syncEnd
        ∧ syncBit bit s = checkInCheck (s.advanced bit))
    ∨ (s.fs.sync.inLock = true ∧ s.fs.offset + 1 ≠ s.fmt.syncEnd + s.fmt.slipWin
        ∧ syncBit bit s = deliverWord (s.advanced bit))
    ∨ (s.fs.sync.inLock = true ∧ s.fs.offset + 1 = s.fmt.syncEnd + s.fmt.slipWin
        ∧ syncBit bit s = checkInLock (s.advanced bit)) := by
  have lockCases (inLock : s.fs.sync.inLock = true) :
      (s.fs.sync.inLock = true ∧ s.fs.offset + 1 ≠ s.fmt.syncEnd + s.fmt.slipWin
        ∧ syncBit bit s = deliverWord (s.advanced bit))
      ∨ (s.fs.sync.inLock = true ∧ s.fs.offset + 1 = s.fmt.syncEnd + s.fmt.slipWin
        ∧ syncBit bit s = checkInLock (s.advanced bit)) := by
    by_cases atEnd : s.fs.offset + 1 = s.fmt.syncEnd + s.fmt.slipWin
    · exact .inr ⟨inLock, atEnd, syncBit_lock_end inLock atEnd bit⟩
    · exact .inl ⟨inLock, atEnd, syncBit_lock_inside inLock atEnd bit⟩
  cases sync : s.fs.sync with
  | off => exact .inl ⟨rfl, syncBit_off sync bit⟩
  | search => exact .inr (.inl ⟨rfl, syncBit_search sync bit⟩)
  | check =>
    by_cases atEnd : s.fs.offset + 1 = s.fmt.syncEnd
    · exact .inr (.inr (.inr (.inl ⟨rfl, atEnd, syncBit_check_end sync atEnd bit⟩)))
    · exact .inr (.inr (.inl ⟨rfl, atEnd, syncBit_check_inside sync atEnd bit⟩))
  | lock | coast =>
    exact .inr (.inr (.inr (.inr (sync ▸ lockCases (sync ▸ rfl)))))

/-- What frame starts, completed words, entries into SEARCH and the bookkeeping of the Frame Synchronizer
keep, every bit keeps. -/
theorem syncBit_keeps {P : State → Prop} (fs : ∀ {s} fs', P s → P { s with fs := fs' })
    (start : ∀ {s} fs' slip first events, P s → P (startFrame fs' slip first events s))
    (word : ∀ {s} k, P s → P (wordComplete k s))
    (search : ∀ {s} events, P s → P (enterSearch events s)) {s : State} (bit : Bool) (h : P s) :
    P (syncBit bit s) := by
  have deliver {u : State} (hu : P u) : P (deliverWord u) := by
    unfold deliverWord
    split
    · split
      · exact word _ hu
      · exact hu
    · exact hu
  have advanced : P (s.advanced bit) := fs _ h
  rcases syncBit_cases bit s with
    ⟨-, e⟩ | ⟨-, e⟩ | ⟨-, -, e⟩ | ⟨-, -, e⟩ | ⟨-, -, e⟩ | ⟨-, -, e⟩ <;> rw [e]
  · exact h
  · unfold searchBit
    split
    · exact start _ _ _ _ (fs _ h)
    · exact fs _ h
  · exact deliver advanced
  · unfold checkInCheck
    split
    · split <;> exact start _ _ _ _ advanced
    · exact search _ advanced
  · exact deliver advanced
  · have miss : P (syncMiss (s.advanced bit)) := by
      unfold syncMiss
      dsimp only
      split
      · exact start _ _ _ _ advanced
      · exact search _ (fs _ advanced)
    unfold checkInLock
    split
    · exact deliver (start _ _ _ _ advanced)
    · split
      · exact deliver miss
      · exact miss

/-- What entries into SEARCH and the interruption of a frame keep, the loss of frame timing keeps. -/
theorem abandonTiming_keeps {P : State → Prop} (interrupt : ∀ {s}, P s → P (interruptFrame s))
    (search : ∀ {s} events, P s → P (enterSearch events s)) {s : State} (reason : LostReason)
    (h : P s) : P (abandonTiming reason s) := by
  unfold abandonTiming
  split
  case h_1 | h_2 => exact search _ (interrupt h)
  case h_3 => exact search _ h
  case h_4 | h_5 => exact h

end Sys2Proof.Machine
end

section
/-! PROOF. The table memories (R59, R83, R106): every change keeps them canonical, and every channel entry
keeps OVERRUN under AVAILABLE (R108, R116). -/

namespace Sys2Proof.Machine

/-! ### What a memory lists after a change -/

theorem Memory.mem_write {α : Type} [DecidableEq α] {d : α} {m : Memory α} {k : Nat} {v : α}
    {p : Nat × α} (hp : p ∈ Memory.write d m k v) : p ∈ m ∨ p = (k, v) := by
  induction m with
  | nil =>
    unfold write at hp
    split at hp <;> simp_all
  | cons q rest ih =>
    unfold write at hp
    split at hp
    · split at hp <;> simp_all; tauto
    · split at hp
      · split at hp <;> simp_all; tauto
      · rcases List.mem_cons.1 hp with rfl | hp
        · exact .inl List.mem_cons_self
        · exact (ih hp).imp_left (List.mem_cons_of_mem _)

/-- An index reads what is listed for it, or what unlisted indices read as. -/
theorem Memory.read_eq_or_mem {α : Type} (d : α) (m : Memory α) (k : Nat) :
    Memory.read d m k = d ∨ (k, Memory.read d m k) ∈ m := by
  induction m with
  | nil => exact .inl rfl
  | cons q rest ih =>
    unfold read
    split
    · rename_i hk
      exact .inr (by simp [← hk])
    · exact ih.imp_right (List.mem_cons_of_mem _)

/-! ### OVERRUN under AVAILABLE, entry by entry -/

/-- OVERRUN stands only with AVAILABLE (R108). -/
def ChannelEntry.OverrunOk (e : ChannelEntry) : Prop := e.overrun = true → e.available = true

/-- Every listed entry keeps OVERRUN under AVAILABLE. -/
def ChannelTable.OverrunOk (t : ChannelTable) : Prop := ∀ p ∈ t.entries, p.2.OverrunOk

theorem ChannelTable.OverrunOk.entry {t : ChannelTable} (h : t.OverrunOk) (c : Nat) :
    (t.entry c).OverrunOk := by
  rcases Memory.read_eq_or_mem {} t.entries c with unlisted | listed
  · rw [ChannelTable.entry, unlisted]
    exact nofun
  · exact h _ listed

theorem ChannelTable.OverrunOk.setEntry {t : ChannelTable} (h : t.OverrunOk) (c : Nat)
    {e : ChannelEntry} (he : e.OverrunOk) : (t.setEntry c e).OverrunOk := by
  intro p hp
  rcases Memory.mem_write hp with old | rfl
  · exact h p old
  · exact he

theorem ChannelTable.OverrunOk.discard {t : ChannelTable} (h : t.OverrunOk) : t.discard.OverrunOk := by
  intro p hp
  obtain ⟨q, hq, rfl, -⟩ := Memory.mem_mapAll _ _ _ _ hp
  exact h q hq

theorem ChannelTable.overrunOk_clearAll (t : ChannelTable) : t.clearAll.OverrunOk := by
  intro p hp
  obtain ⟨q, -, rfl, -⟩ := Memory.mem_mapAll _ _ _ _ hp
  exact nofun

theorem ChannelEntry.OverrunOk.writeWord0 {e : ChannelEntry} (h : e.OverrunOk) (w : Word) :
    (e.writeWord0 w).OverrunOk := by
  simp only [OverrunOk, ChannelEntry.writeWord0, Bool.and_eq_true] at h ⊢
  tauto

theorem decodeValue_overrunOk (p : Profile) (c : Nat) (i : WordInfo) (value : Nat)
    (flagged bad : Bool) {e : ChannelEntry} (h : e.OverrunOk) :
    (decodeValue p c i value flagged bad e).entry.OverrunOk := by
  unfold decodeValue
  dsimp only
  split
  · exact h
  · split
    · exact h
    · exact fun _ => rfl

theorem decodePart_overrunOk (p : Profile) (wlen c : Nat) (part : Part) (i : WordInfo)
    {e : ChannelEntry} (h : e.OverrunOk) : (decodePart p wlen c part i e).entry.OverrunOk := by
  cases part
  case whole =>
    dsimp only [decodePart, decodeWhole]
    split
    · exact h
    · exact decodeValue_overrunOk _ _ _ _ _ _ h
  case upper => exact h
  case lower =>
    dsimp only [decodePart, decodeLower]
    split
    · exact h
    · split
      · exact h
      · split
        · exact h
        · exact decodeValue_overrunOk _ _ _ _ _ _ (e := e.release) h

theorem decodeChannel_overrunOk {s : State} (h : s.chan.OverrunOk) (c : Nat) (part : Part)
    (i : WordInfo) : (decodeChannel s c part i).entry.OverrunOk := by
  unfold decodeChannel
  dsimp only
  split
  · exact decodePart_overrunOk _ _ _ _ _ (h.entry c)
  · exact h.entry c

/-! ### The entries of the Channel Table -/

/-- A channel table that the Word Decoder and the host keep: canonical, OVERRUN under AVAILABLE. -/
def ChannelTable.Sound (t : ChannelTable) : Prop :=
  Memory.Wf ({} : ChannelEntry) Config.channels t.entries ∧ t.OverrunOk

theorem ChannelTable.Sound.setEntry {t : ChannelTable} (h : t.Sound) {c : Nat}
    (hc : c < Config.channels) {e : ChannelEntry} (he : e.OverrunOk) : (t.setEntry c e).Sound :=
  ⟨Memory.wf_write _ _ _ _ _ h.1 hc, h.2.setEntry c he⟩

theorem ChannelTable.Sound.discard {t : ChannelTable} (h : t.Sound) : t.discard.Sound :=
  ⟨Memory.wf_mapAll _ _ _ _ h.1, h.2.discard⟩

theorem ChannelTable.Sound.clearAll {t : ChannelTable} (h : t.Sound) : t.clearAll.Sound :=
  ⟨Memory.wf_mapAll _ _ _ _ h.1, t.overrunOk_clearAll⟩

theorem mapKind_channel_lt {w : Word} {c : Nat} {part : Part} (kind : mapKind w = .channel c part) :
    c < 256 := by
  unfold mapKind at kind
  split at kind <;> cases kind
  exact bitField_lt w 0 8

theorem poolChannel_lt {w : Word} {c : Nat} (named : poolChannel w = some c) : c < 256 := by
  unfold poolChannel at named
  split at named <;> cases named
  exact bitField_lt w 0 8

/-- A word resolves to a channel of the table: eight bits name it (R60, R63). -/
theorem MapStore.resolve_channel_lt {m : MapStore} {position : Nat} {phase : Option Nat} {c : Nat}
    {part : Part} (found : m.resolve position phase = .channel c part) : c < Config.channels := by
  unfold resolve MapBank.meaning at found
  split at found
  case h_1 | h_2 => cases found
  case h_3 kind =>
    cases found
    exact mapKind_channel_lt kind
  case h_4 =>
    split at found
    · cases found
    · split at found
      · cases found
      · rename_i named
        cases found
        exact poolChannel_lt named

theorem decodeWord_sound {s : State} (h : s.chan.Sound) (i : WordInfo) : (decodeWord i s).chan.Sound := by
  unfold decodeWord
  split
  case h_1 | h_2 => exact h
  case h_3 => exact h
  case h_4 c part found =>
    exact h.setEntry (MapStore.resolve_channel_lt found) (decodeChannel_overrunOk h.2 c part i)

theorem wordComplete_sound {s : State} (h : s.chan.Sound) (k : Nat) : (wordComplete k s).chan.Sound := by
  have decoded := decodeWord_sound h (s.wordInfo k)
  simp only [wordComplete, offerBlocks_chan, discardAtWpf]
  split
  · exact decoded.discard
  · exact decoded

/-! ### The banks and the profiles -/

theorem MapBank.Canonical.writeSpace {k : MapBank} (h : k.Canonical) {sp : BankSpace} {j : Nat}
    (inside : j < sp.words) (w : Word) : (k.writeSpace sp j w).Canonical := by
  obtain ⟨map, lists, pool⟩ := h
  cases sp
  case map => exact ⟨Memory.wf_write _ _ _ _ _ map inside, lists, pool⟩
  case lists => exact ⟨map, Memory.wf_write _ _ _ _ _ lists inside, pool⟩
  case pool => exact ⟨map, lists, Memory.wf_write _ _ _ _ _ pool inside⟩

/-- Both banks are canonical. -/
def MapStore.Canonical (m : MapStore) : Prop := ∀ which, (m.bank which).Canonical

theorem MapStore.bank_setBank (m : MapStore) (which other : Bank) (k : MapBank) :
    (m.setBank which k).bank other = if other = which then k else m.bank other := by
  cases which <;> cases other <;> rfl

theorem MapStore.Canonical.setBank {m : MapStore} (h : m.Canonical) (which : Bank) {k : MapBank}
    (hk : k.Canonical) : (m.setBank which k).Canonical := by
  intro other
  rw [bank_setBank]
  split
  · exact hk
  · exact h other

@[simp] theorem MapStore.bank_swappedIf (m : MapStore) (taken : Bool) (which : Bank) :
    (m.swappedIf taken).bank which = m.bank which := by
  cases taken <;> cases which <;> rfl

theorem MapStore.Canonical.swappedIf {m : MapStore} (h : m.Canonical) (taken : Bool) :
    (m.swappedIf taken).Canonical := fun which => m.bank_swappedIf taken which ▸ h which

/-! ### Every change -/

/-- What O56 says of a state, block by block. -/
def State.TablesSound (s : State) : Prop :=
  s.map.Canonical ∧ Memory.Wf ({} : Profile) 16 s.prof.profiles ∧ s.chan.Sound

theorem State.tablesSound_iff (s : State) :
    s.TablesSound ↔ s.MemoriesCanonical ∧ s.OverrunSafe := by
  constructor
  · rintro ⟨banks, profiles, entries, overrun⟩
    exact ⟨⟨banks .a, banks .b, profiles, entries⟩, overrun⟩
  · rintro ⟨⟨bankA, bankB, profiles, entries⟩, overrun⟩
    exact ⟨fun which => which.casesOn bankA bankB, profiles, entries, overrun⟩

theorem startFrame_tablesSound {s : State} (h : s.TablesSound) (fs : FrameSync) (slip : Int)
    (first : Bool) (events : List Event) : (startFrame fs slip first events s).TablesSound := by
  obtain ⟨banks, profiles, entries⟩ := h
  refine ⟨?_, by simpa using profiles, by simpa using entries⟩
  simpa only [startFrame_map] using banks.swappedIf _

theorem enterSearch_tablesSound {s : State} (h : s.TablesSound) (events : List Event) :
    (enterSearch events s).TablesSound := by
  obtain ⟨banks, profiles, entries⟩ := h
  refine ⟨?_, by simpa using profiles, by simpa using entries⟩
  simpa only [enterSearch_map] using banks.swappedIf _

theorem interruptFrame_tablesSound {s : State} (h : s.TablesSound) : (interruptFrame s).TablesSound :=
  ⟨h.1, h.2.1, h.2.2.discard⟩

theorem wordComplete_tablesSound {s : State} (h : s.TablesSound) (k : Nat) :
    (wordComplete k s).TablesSound := by
  obtain ⟨banks, profiles, entries⟩ := h
  exact ⟨by simpa using banks, by simpa using profiles, wordComplete_sound entries k⟩

theorem takeSwap_tablesSound {s : State} (h : s.TablesSound) : (takeSwap s).TablesSound := by
  obtain ⟨banks, profiles, entries⟩ := h
  refine ⟨?_, by simpa using profiles, by simpa using entries⟩
  rw [takeSwap_map]
  exact banks.swappedIf true

theorem leaveRun_tablesSound {s : State} (h : s.TablesSound) : (leaveRun s).TablesSound := by
  unfold leaveRun takePendingSwap
  have rested := interruptFrame_tablesSound (s := { s with run := .idle, fs := s.fs.toOff, sf := {} }) h
  split
  · exact takeSwap_tablesSound rested
  · exact rested

theorem endValidation_tablesSound {s : State} (h : s.TablesSound) : (endValidation s).TablesSound := by
  unfold endValidation
  split
  · split
    · exact h
    · unfold validationPassed
      dsimp only
      split
      · exact h
      · exact takeSwap_tablesSound h
  · exact h

theorem Effect.keeps_tablesSound {s t : State} (change : Effect s t) (h : s.TablesSound) :
    t.TablesSound := by
  cases change
  case aside same =>
    have blanked : s.work.TablesSound := h
    rw [← same] at blanked
    exact blanked
  case powerOn =>
    exact State.reset.tablesSound_iff.2 ⟨State.reset_memoriesCanonical, State.reset_overrunSafe⟩
  case softReset => exact ⟨h.1, h.2.1, h.2.2.clearAll⟩
  case bit b =>
    exact syncBit_keeps (P := State.TablesSound) (fun _ h => h)
      (fun _ _ _ _ h => startFrame_tablesSound h _ _ _ _) (fun k h => wordComplete_tablesSound h k)
      (fun _ h => enterSearch_tablesSound h _) b h
  case abandonTiming reason =>
    exact abandonTiming_keeps (P := State.TablesSound) interruptFrame_tablesSound
      (fun _ h => enterSearch_tablesSound h _) reason h
  case leaveRun => exact leaveRun_tablesSound h
  case endValidation => exact endValidation_tablesSound h
  case writeBank inside =>
    exact ⟨h.1.setBank _ ((h.1 _).writeSpace inside _), h.2⟩
  case commit number => exact ⟨h.1, Memory.wf_write _ _ _ _ _ h.2.1 number, h.2.2⟩
  case writeChannel w number =>
    exact ⟨h.1, h.2.1, h.2.2.setEntry number ((h.2.2.2.entry _).writeWord0 w)⟩
  case clearChannels => exact ⟨h.1, h.2.1, h.2.2.clearAll⟩
  all_goals exact h

/-- Settles O56: every step is a chain of changes, and each keeps the tables sound. -/
theorem stepsKeepTheTablesSound : Obligations.StepsKeepTheTablesSound := by
  intro s t canonical overrun next
  rw [← t.tablesSound_iff]
  exact step_keeps Effect.keeps_tablesSound next (s.tablesSound_iff.2 ⟨canonical, overrun⟩)

end Sys2Proof.Machine
end

section
/-! PROOF. The active bank stays valid, and PENDING stands over a validated standby while a frame is decoded
(R69, R74 to R76, R82). -/

namespace Sys2Proof.Machine

theorem MapStore.bank_swapped (m : MapStore) (which : Bank) : m.swapped.bank which = m.bank which := by
  cases which <;> rfl

/-- A happening that takes the swap over a validated standby, or leaves the banks and lets PENDING stand
only while a frame is decoded, keeps the banks safe. -/
theorem State.BanksSafe.swappedIf {s t : State} (h : s.BanksSafe) {taken : Bool}
    (banks : t.map = s.map.swappedIf taken)
    (ready : taken = true → (s.map.bank s.map.standby).Valid)
    (stays : taken = false → s.map.swap = .pending → t.run = .run ∧ t.fs.sync.inLock = true) :
    t.BanksSafe := by
  obtain ⟨active, pending⟩ := h
  cases taken with
  | true =>
    refine ⟨?_, fun editable => ?_⟩
    · rw [banks]
      exact (s.map.bank_swapped _).symm ▸ ready rfl
    · rw [banks] at editable
      cases editable
  | false =>
    refine ⟨by rw [banks]; exact active, fun isPending => ?_⟩
    rw [banks] at isPending ⊢
    exact ⟨(pending isPending).1, stays rfl isPending⟩

theorem MapStore.takesAtFrameStart_pending {m : MapStore} {depth : Nat} {phase : Option Nat}
    (taken : m.takesAtFrameStart depth phase = true) : m.swap = .pending :=
  of_decide_eq_true (Bool.and_eq_true_iff.1 taken).1

theorem startFrame_banksSafe {s : State} (h : s.BanksSafe) {fs : FrameSync}
    (decoded : s.fs.sync.inLock = true → fs.sync.inLock = true) (slip : Int) (first : Bool)
    (events : List Event) : (startFrame fs slip first events s).BanksSafe := by
  refine h.swappedIf (startFrame_map ..)
    (fun taken => (h.2 (MapStore.takesAtFrameStart_pending taken)).1) fun _ isPending => ?_
  simpa using ⟨(h.2 isPending).2.1, decoded (h.2 isPending).2.2⟩

theorem enterSearch_banksSafe {s : State} (h : s.BanksSafe) (events : List Event) :
    (enterSearch events s).BanksSafe := by
  refine h.swappedIf (enterSearch_map ..)
    (fun taken => (h.2 (of_decide_eq_true taken)).1) fun notTaken isPending => ?_
  exact absurd isPending (of_decide_eq_false notTaken)

theorem deliverWord_banksSafe {s : State} (h : s.BanksSafe) : (deliverWord s).BanksSafe := by
  simpa [State.BanksSafe] using h

/-- The swap cannot be PENDING outside LOCK and COAST, so a check there may leave the sync state freely. -/
theorem searchBit_banksSafe {s : State} (h : s.BanksSafe) (search : s.fs.sync = .search) :
    (searchBit s).BanksSafe := by
  unfold searchBit
  split
  · exact startFrame_banksSafe h (by simp [search, SyncState.inLock]) _ _ _
  · exact h

theorem checkInCheck_banksSafe {s : State} (h : s.BanksSafe) (check : s.fs.sync = .check) :
    (checkInCheck s).BanksSafe := by
  have undecoded (fs : FrameSync) : s.fs.sync.inLock = true → fs.sync.inLock = true := by
    simp [check, SyncState.inLock]
  unfold checkInCheck
  split
  · split <;> exact startFrame_banksSafe h (undecoded _) _ _ _
  · exact enterSearch_banksSafe h _

theorem syncPass_banksSafe {s : State} (h : s.BanksSafe) (o : Int) : (syncPass o s).BanksSafe := by
  unfold syncPass
  exact startFrame_banksSafe h (fun _ => rfl) _ _ _

theorem syncMiss_banksSafe {s : State} (h : s.BanksSafe) : (syncMiss s).BanksSafe := by
  unfold syncMiss
  dsimp only
  split
  · exact startFrame_banksSafe h (fun _ => rfl) _ _ _
  · have counted :
        State.BanksSafe { s with fs := { s.fs with syncMisses := stopInc s.fs.syncMisses } } := h
    exact enterSearch_banksSafe counted _

theorem checkInLock_banksSafe {s : State} (h : s.BanksSafe) : (checkInLock s).BanksSafe := by
  unfold checkInLock
  split
  · exact deliverWord_banksSafe (syncPass_banksSafe h _)
  · split
    · exact deliverWord_banksSafe (syncMiss_banksSafe h)
    · exact syncMiss_banksSafe h

theorem syncBit_banksSafe {s : State} (h : s.BanksSafe) (bit : Bool) : (syncBit bit s).BanksSafe := by
  have pushed : (s.pushed bit).BanksSafe := h
  have advanced : (s.advanced bit).BanksSafe := h
  rcases syncBit_cases bit s with ⟨-, e⟩ | ⟨search, e⟩ | ⟨-, -, e⟩ | ⟨check, -, e⟩ | ⟨-, -, e⟩ | ⟨-, -, e⟩
    <;> rw [e]
  · exact h
  · exact searchBit_banksSafe pushed search
  · exact deliverWord_banksSafe advanced
  · exact checkInCheck_banksSafe advanced check
  · exact deliverWord_banksSafe advanced
  · exact checkInLock_banksSafe advanced

theorem leaveRun_banksSafe {s : State} (h : s.BanksSafe) : (leaveRun s).BanksSafe := by
  unfold leaveRun takePendingSwap
  split
  · rename_i taken
    refine h.swappedIf (taken := true) (takeSwap_map _)
      (fun _ => (h.2 (of_decide_eq_true taken)).1) nofun
  · rename_i notTaken
    exact ⟨h.1, fun isPending => absurd (decide_eq_true isPending) notTaken⟩

theorem endValidation_banksSafe {s : State} (h : s.BanksSafe) : (endValidation s).BanksSafe := by
  unfold endValidation
  split
  · split
    · exact ⟨h.1, nofun⟩
    · rename_i valid
      unfold validationPassed
      dsimp only
      split
      · rename_i decoding
        exact ⟨h.1, fun _ => ⟨valid, decoding⟩⟩
      · have cleared : State.BanksSafe { s with map := { s.map with
            fault := { bank := s.map.standby, location := 0, reason := .noFault } } } := h
        exact cleared.swappedIf (taken := true) (takeSwap_map _) (fun _ => valid) nofun
  · exact h

theorem Effect.keeps_banksSafe {s t : State} (change : Effect s t) (h : s.BanksSafe) :
    t.BanksSafe := by
  cases change
  case aside same =>
    have blanked : s.work.BanksSafe := h
    rw [← same] at blanked
    exact blanked
  case powerOn => exact State.reset_banksSafe
  case softReset => exact ⟨h.1, nofun⟩
  case bit b => exact syncBit_banksSafe h b
  case abandonTiming reason =>
    exact abandonTiming_keeps (P := State.BanksSafe) id (fun _ h => enterSearch_banksSafe h _) reason h
  case enterRun idle => exact ⟨h.1, fun isPending => nomatch idle.symm.trans (h.2 isPending).2.1⟩
  case leaveRun => exact leaveRun_banksSafe h
  case endValidation => exact endValidation_banksSafe h
  case setSwap w notPending => exact ⟨h.1, fun isPending => absurd isPending notPending⟩
  case writeBank which sp k w role editable inside =>
    have active (b : MapBank) : (s.map.setBank which b).active = s.map.active := by cases which <;> rfl
    have swap (b : MapBank) : (s.map.setBank which b).swap = s.map.swap := by cases which <;> rfl
    refine ⟨?_, fun isPending => ?_⟩
    · rw [active, MapStore.bank_setBank, if_neg role.symm]
      exact h.1
    · rw [swap, editable] at isPending
      cases isPending
  all_goals exact h

/-- Settles O57: every step is a chain of changes, and each keeps the banks safe. -/
theorem stepsKeepTheActiveBankValid : Obligations.StepsKeepTheActiveBankValid :=
  fun _ _ h next => step_keeps Effect.keeps_banksSafe next h

end Sys2Proof.Machine
end

section
/-! PROOF. Records (R133, Tables 12-5, 12-6) and the order in which the blocks of one happening offer them
(R137, 8.10). -/

namespace Sys2Proof.Machine

/-! ### The order of the offers -/

theorem weaveAll_perm (n : Nat) (groups : List (List Rec)) :
    (weaveAll n groups).Perm groups.flatten := by
  induction groups generalizing n with
  | nil => exact .nil
  | cons g gs ih => exact (weave_perm n g _).trans ((ih _).append_left g)

theorem weaveAll_sublist {g : List Rec} {groups : List (List Rec)} (hg : g ∈ groups) (n : Nat) :
    g.Sublist (weaveAll n groups) := by
  induction groups generalizing n with
  | nil => exact nomatch hg
  | cons first rest ih =>
    rcases List.mem_cons.1 hg with rfl | hg
    · exact weave_sublist_left n g _
    · exact (ih hg _).trans (weave_sublist_right n first _)

/-- Settles O40: a weave is a permutation that keeps each list, block after block. -/
theorem offersOfOneHappeningInterleave : Obligations.OffersOfOneHappeningInterleave :=
  fun n groups => ⟨weaveAll_perm n groups, fun _ hg => weaveAll_sublist hg n⟩

/-- What the offer of each record keeps, their offer one after another keeps. -/
theorem offerAll_keeps {P : State → Prop} {rs : List Rec}
    (each : ∀ {s}, ∀ r ∈ rs, P s → P (offer r s)) {s : State} (h : P s) : P (offerAll rs s) := by
  induction rs generalizing s with
  | nil => exact h
  | cons r rs ih =>
    exact ih (fun q hq => each q (List.mem_cons_of_mem _ hq)) (each r List.mem_cons_self h)

/-- What the offer of each block's each record keeps, the offers of one happening keep. -/
theorem offerBlocks_keeps {P : State → Prop} {groups : List (List Rec)}
    (order : ∀ {s} n, P s → P { s with order := n })
    (each : ∀ {s}, ∀ g ∈ groups, ∀ r ∈ g, P s → P (offer r s)) {s : State} (h : P s) :
    P (offerBlocks groups s) := by
  refine offerAll_keeps (fun r hr => ?_) (order _ h)
  obtain ⟨g, hg, hr⟩ := List.mem_flatten.1 ((weaveAll_perm _ _).mem_iff.1 hr)
  exact each g hg r hr

/-! ### Headers -/

theorem headerLength_header (kind : RecordKind) (coast parity overrun : Bool) {length : Nat}
    (short : length < 1024) : headerLength (header kind coast parity overrun length) = length := by
  have marks : BitVec.extractLsb' 0 10 (placed kind.code 13 ||| placedBit coast 12
      ||| placedBit parity 11 ||| placedBit overrun 10) = 0 := by
    cases kind <;> cases coast <;> cases parity <;> cases overrun <;> rfl
  rw [headerLength, bitField, header, BitVec.extractLsb'_or, marks]
  simp [placed, BitVec.extractLsb'_toNat]
  omega

theorem header_ne_zero (kind : RecordKind) (coast parity overrun : Bool) (length : Nat) :
    header kind coast parity overrun length ≠ 0 := by
  intro zero
  have code : placed kind.code 13 = 0 := by
    apply BitVec.eq_of_getLsbD_eq
    intro i hi
    have bit := congrArg (BitVec.getLsbD · i) zero
    simp only [header, BitVec.getLsbD_or, BitVec.ofNat_eq_ofNat, BitVec.getLsbD_zero,
      Bool.or_eq_false_iff] at bit ⊢
    exact bit.1.1.1.1
  cases kind <;> exact absurd code (by decide)

/-- A record's header gives its length and is not 0000h (R133). -/
def HeaderTrue (r : Rec) : Prop := headerLength (r.headD 0) = r.length ∧ r.headD 0 ≠ 0

theorem HeaderTrue.ne_nil {r : Rec} (h : HeaderTrue r) : r ≠ [] := by
  rintro rfl
  exact h.2 rfl

theorem gapRecord_headerTrue (count : Word) : HeaderTrue (gapRecord count) :=
  ⟨headerLength_header _ _ _ _ (by decide), header_ne_zero _ _ _ _ _⟩

theorem Event.record_headerTrue (e : Event) : HeaderTrue e.record :=
  ⟨headerLength_header _ _ _ _ (by decide), header_ne_zero _ _ _ _ _⟩

theorem sampleRecord_headerTrue (fsn : Word) (channel : Nat) (phase : BitVec 8) (value : BitVec 32)
    (coast parity overrun : Bool) :
    HeaderTrue (sampleRecord fsn channel phase value coast parity overrun) :=
  ⟨headerLength_header _ _ _ _ (by decide), header_ne_zero _ _ _ _ _⟩

theorem frameRecord_headerTrue {c : Capture} (short : c.buffer.length ≤ 512) :
    HeaderTrue (frameRecord c) := by
  refine ⟨?_, header_ne_zero _ _ _ _ _⟩
  have := headerLength_header .frame c.coast false false (length := 4 + c.buffer.length) (by omega)
  simp only [frameRecord, List.cons_append, List.nil_append, List.headD_cons, this, List.length_cons]
  omega

/-! ### The records of each block -/

theorem eventRecords_headerTrue {ev : EventUnit} {events : List Event} {r : Rec}
    (hr : r ∈ eventRecords ev events) : HeaderTrue r := by
  obtain ⟨e, -, rfl⟩ := List.mem_map.1 hr
  exact e.record_headerTrue

theorem markRecords_headerTrue {ev : EventUnit} {ns : List Nat} {fsn : Word} {coast : Bool} {r : Rec}
    (hr : r ∈ ev.markRecords ns fsn coast) : HeaderTrue r := by
  obtain ⟨n, -, rfl⟩ := List.mem_map.1 hr
  exact Event.record_headerTrue _

theorem decodeValue_record_headerTrue {p : Profile} {c : Nat} {i : WordInfo} {value : Nat}
    {flagged bad : Bool} {e : ChannelEntry} {r : Rec}
    (hr : (decodeValue p c i value flagged bad e).record = some r) : HeaderTrue r := by
  unfold decodeValue at hr
  dsimp only at hr
  split at hr
  · cases hr
  · split at hr
    · cases hr
    · dsimp only at hr
      split at hr
      · cases hr
        exact sampleRecord_headerTrue _ _ _ _ _ _ _
      · cases hr

theorem decodePart_record_headerTrue {p : Profile} {wlen c : Nat} {part : Part} {i : WordInfo}
    {e : ChannelEntry} {r : Rec} (hr : (decodePart p wlen c part i e).record = some r) :
    HeaderTrue r := by
  cases part
  case whole =>
    dsimp only [decodePart, decodeWhole] at hr
    split at hr
    · cases hr
    · exact decodeValue_record_headerTrue hr
  case upper => cases hr
  case lower =>
    dsimp only [decodePart, decodeLower] at hr
    split at hr
    · cases hr
    · split at hr
      · cases hr
      · split at hr
        · cases hr
        · exact decodeValue_record_headerTrue hr

theorem sampleOffered_headerTrue {i : WordInfo} {s : State} {r : Rec} (hr : r ∈ sampleOffered i s) :
    HeaderTrue r := by
  unfold sampleOffered at hr
  split at hr
  case h_4 c part _ =>
    have offered := Option.mem_toList.1 hr
    unfold decodeChannel at offered
    dsimp only at offered
    split at offered
    · exact decodePart_record_headerTrue offered
    · cases offered
  all_goals exact nomatch hr

/-- The only FRAME record that a completed word can bring is that of the capture, at word WPF. -/
theorem frameOffered_says {u : CaptureUnit} {last flag : Bool} {raw : Word} {r : Rec}
    (hr : r ∈ u.frameOffered last flag raw) :
    ∃ c, u.current = some c ∧ last = true ∧ r = frameRecord (c.append flag raw) := by
  unfold CaptureUnit.frameOffered at hr
  split at hr
  · exact nomatch hr
  · rename_i c current
    split at hr
    · rename_i ends
      exact ⟨c, current, (Bool.and_eq_true_iff.1 ends).1, List.mem_singleton.1 hr⟩
    · exact nomatch hr

/-- Every record of a completed word has a true header, but for the capture's, whose length its buffer
decides. -/
theorem wordRecords_say {i : WordInfo} {s : State} {g : List Rec} {r : Rec} (hg : g ∈ wordRecords i s)
    (hr : r ∈ g) :
    HeaderTrue r ∨ ∃ c, s.cap.current = some c ∧ i.position = s.fmt.wpf
      ∧ r = frameRecord (c.append (s.map.captures i.position) i.raw) := by
  simp only [wordRecords, List.mem_cons, List.not_mem_nil, or_false] at hg
  rcases hg with rfl | rfl | rfl | rfl
  · exact .inl (sampleOffered_headerTrue hr)
  · obtain ⟨c, current, last, is⟩ := frameOffered_says hr
    exact .inr ⟨c, current, of_decide_eq_true last, is⟩
  · exact .inl (eventRecords_headerTrue hr)
  · exact .inl (markRecords_headerTrue hr)

end Sys2Proof.Machine
end

section
/-! PROOF. The Record Queue and the Record Output Port in agreement (R132, R134, R145, R149 to R151,
Table 9-1). -/

namespace Sys2Proof.Machine

/-! ### The store -/

theorem RecordQueue.Sound.consumed_le {q : RecordQueue} (h : q.Sound) :
    q.consumed ≤ (q.store.map List.length).sum := by
  obtain ⟨-, -, empty, inside⟩ := h
  cases store : q.store with
  | nil => simp [empty store]
  | cons r rest =>
    have := inside (by simp [store])
    simp only [head, store, List.headD_cons] at this
    simp only [List.map_cons, List.sum_cons]
    omega

/-- The queue with records behind its store. -/
def RecordQueue.behind (q : RecordQueue) (new : List Rec) : RecordQueue :=
  { q with store := q.store ++ new }

theorem RecordQueue.Sound.count_behind {q : RecordQueue} (h : q.Sound) (new : List Rec) :
    (q.behind new).count = q.count + (new.map List.length).sum := by
  have := h.consumed_le
  simp only [count, behind, store_words_append]
  omega

theorem RecordQueue.head_behind {q : RecordQueue} (nonempty : q.store ≠ []) (new : List Rec) :
    (q.behind new).head = q.head := by
  obtain ⟨r, rest, store⟩ := List.exists_cons_of_ne_nil nonempty
  simp [head, behind, store]

/-- Records behind the store keep it sound while they fit (R134). -/
theorem RecordQueue.Sound.behind {q : RecordQueue} (h : q.Sound) {new : List Rec}
    (records : ∀ r ∈ new, r ≠ [])
    (fits : q.count + (new.map List.length).sum ≤ Config.storeWords) : (q.behind new).Sound := by
  have counted := h.count_behind new
  obtain ⟨-, nonempty, empty, inside⟩ := h
  refine ⟨counted ▸ fits, fun r hr => ?_, fun none => ?_, fun some => ?_⟩
  · rcases List.mem_append.1 hr with old | hr
    · exact nonempty r old
    · exact records r hr
  · exact empty (List.append_eq_nil_iff.1 none).1
  · by_cases store : q.store = []
    · cases new with
      | nil => simp [RecordQueue.behind, store] at some
      | cons r rest =>
        have : r ≠ [] := records r List.mem_cons_self
        simp only [RecordQueue.behind, head, store, List.nil_append, List.headD_cons, empty store]
        exact List.length_pos_iff.2 this
    · rw [head_behind store]
      exact inside store

/-- The head consumed whole leaves a sound queue (R139, R142). -/
theorem RecordQueue.Sound.skip {q : RecordQueue} (h : q.Sound) : q.skip.Sound := by
  have consumed := h.consumed_le
  obtain ⟨fits, nonempty, empty, inside⟩ := h
  cases store : q.store with
  | nil => simp [Sound, RecordQueue.skip, store, count]
  | cons r rest =>
    have here := inside (by simp [store])
    simp only [head, store, List.headD_cons] at here
    refine ⟨?_, fun x hx => nonempty x ?_, fun _ => rfl, fun some => ?_⟩
    · simp only [count, store, RecordQueue.skip, List.tail_cons, List.map_cons, List.sum_cons] at fits ⊢
      omega
    · simp only [RecordQueue.skip, store, List.tail_cons] at hx
      simp [store, hx]
    · simp only [RecordQueue.skip, store, List.tail_cons] at some
      obtain ⟨next, later, rfl⟩ := List.exists_cons_of_ne_nil some
      simp only [RecordQueue.skip, head, store, List.tail_cons, List.headD_cons]
      exact List.length_pos_iff.2 (nonempty next (by simp [store]))

/-- One word consumed leaves a sound queue (R139, R142). -/
theorem RecordQueue.Sound.consume {q : RecordQueue} (h : q.Sound) : q.consume.Sound := by
  unfold RecordQueue.consume
  split
  · exact h.skip
  · rename_i more
    obtain ⟨fits, nonempty, -, -⟩ := h
    simp only [lastWord, decide_eq_true_eq, Nat.not_le] at more
    refine ⟨?_, nonempty, fun none => ?_, fun _ => more⟩
    · simp only [count] at fits ⊢
      omega
    · have : q.head = [] := by simp only [head, show q.store = [] from none, List.headD_nil]
      simp [this] at more

/-! ### The agreement of queue and port -/

/-- What O58 says of a queue and a port, but for a route change that pends. -/
structure OutputOk (q : RecordQueue) (p : OutputPort) : Prop where
  sound : q.Sound
  off_iff : p.mode = .off ↔ q.active = .host
  idle : p.mode = .idle → q.store = []
  busy : p.mode = .sending ∨ p.mode = .paused → q.store ≠ []
  begun : q.begun = true → p.mode = .sending ∨ p.mode = .paused
  whole : q.active = .port → q.begun = false → q.consumed = 0
  frm : p.frm = q.begun
  dat : p.frm = false → p.dat = false
  flight : ∀ n, p.inFlight = some n → n ≤ 15 ∧ p.mode = .sending ∧ q.begun = true
  clk : p.clk = none ↔ p.mode = .off

/-- A route change pends only over a touched head (R145). -/
def RecordQueue.PendsOk (q : RecordQueue) : Prop :=
  q.requested ≠ q.active → q.store ≠ [] ∧ q.untouched = false

theorem State.outputSafe_iff (s : State) :
    s.OutputSafe ↔ OutputOk s.queue s.port ∧ s.queue.PendsOk := by
  constructor
  · rintro ⟨sound, off_iff, idle, busy, begun, whole, frm, dat, flight, clk, pends⟩
    exact ⟨⟨sound, off_iff, idle, busy, begun, whole, frm, dat, flight, clk⟩, pends⟩
  · rintro ⟨⟨sound, off_iff, idle, busy, begun, whole, frm, dat, flight, clk⟩, pends⟩
    exact ⟨sound, off_iff, idle, busy, begun, whole, frm, dat, flight, clk, pends⟩

section
variable {q : RecordQueue} {p : OutputPort}

theorem OutputOk.not_begun_off (h : OutputOk q p) (off : p.mode = .off) : q.begun = false := by
  cases begun : q.begun with
  | false => rfl
  | true => rcases h.begun begun with m | m <;> exact nomatch off.symm.trans m

theorem OutputOk.flight_none (h : OutputOk q p) (notSending : p.mode ≠ .sending) :
    p.inFlight = none := by
  cases flight : p.inFlight with
  | none => rfl
  | some n => exact absurd (h.flight n flight).2.1 notSending

theorem OutputOk.active_port (h : OutputOk q p) (mode : p.mode ≠ .off) : q.active = .port := by
  cases active : q.active with
  | port => rfl
  | host => exact absurd (h.off_iff.2 active) mode

/-- Records behind the store, at which an IDLE port goes to SENDING (R134, R152). -/
theorem OutputOk.behind (h : OutputOk q p) {new : List Rec} (some : new ≠ [])
    (records : ∀ r ∈ new, r ≠ [])
    (fits : q.count + (new.map List.length).sum ≤ Config.storeWords) :
    OutputOk (q.behind new) { p with mode := if p.mode = .idle then .sending else p.mode } where
  sound := h.sound.behind records fits
  off_iff := by
    rw [show (q.behind new).active = q.active from rfl, ← h.off_iff]
    cases p.mode <;> simp
  idle := by cases p.mode <;> simp
  busy _ := by simp [RecordQueue.behind, some]
  begun begun := by rcases h.begun begun with m | m <;> simp [m]
  whole := h.whole
  frm := h.frm
  dat := h.dat
  flight n flight := by
    obtain ⟨le, sending, begun⟩ := h.flight n flight
    exact ⟨le, by simp [sending], begun⟩
  clk := by
    rw [h.clk]
    cases p.mode <;> simp

/-- The agreement is not about gaps, drops, the threshold or the requested route. -/
theorem OutputOk.aside (h : OutputOk q p) (gapPending dropped : Word) (threshold : Nat)
    (requested : Route) :
    OutputOk { q with gapPending := gapPending, dropped := dropped, threshold := threshold
                      requested := requested } p :=
  ⟨h.sound, h.off_iff, h.idle, h.busy, h.begun, h.whole, h.frm, h.dat, h.flight, h.clk⟩

/-! ### The route (R144, R145, R151) -/

theorem RecordQueue.takesRoute_iff (q : RecordQueue) :
    q.takesRoute = true
      ↔ q.requested ≠ q.active ∧ (q.store = [] ∨ (q.consumed = 0 ∧ q.begun = false)) := by
  simp [takesRoute, routePending, untouched]

theorem RecordQueue.settled_waits (waits : q.takesRoute = false) (p : OutputPort) :
    q.settled = q ∧ p.settled q = p := by
  simp [settled, OutputPort.settled, waits]

theorem RecordQueue.settled_takes (takes : q.takesRoute = true) (p : OutputPort) :
    q.settled = { q with active := q.requested }
      ∧ p.settled q = p.routed q.requested (decide (q.store = [])) := by
  simp [settled, OutputPort.settled, takes]

/-- The port leaves OFF over a whole head: all its lines are low and it follows the store (R151). -/
theorem OutputOk.leaveOff (h : OutputOk q p) (off : p.mode = .off) (consumed : q.consumed = 0) :
    OutputOk { q with active := .port } (p.leaveOff (decide (q.store = []))) where
  sound := h.sound
  off_iff := by simp only [OutputPort.leaveOff]; split <;> simp
  idle := by simp only [OutputPort.leaveOff]; split <;> simp_all
  busy := by simp only [OutputPort.leaveOff]; split <;> simp_all
  begun begun := by simp [h.not_begun_off off] at begun
  whole _ _ := consumed
  frm := h.frm
  dat := h.dat
  flight n flight := by simp [OutputPort.leaveOff, h.flight_none (by simp [off])] at flight
  clk := by simp only [OutputPort.leaveOff]; split <;> simp

/-- The port goes to OFF with no record begun (R151). -/
theorem OutputOk.enterOff (h : OutputOk q p) (notBegun : q.begun = false) :
    OutputOk { q with active := .host } p.enterOff where
  sound := h.sound
  off_iff := by simp [OutputPort.enterOff]
  idle := nofun
  busy := by simp [OutputPort.enterOff]
  begun begun := by simp [notBegun] at begun
  whole := nofun
  frm := notBegun.symm
  dat _ := rfl
  flight := nofun
  clk := by simp [OutputPort.enterOff]

/-- A pending change taken moves the port, and none pends afterwards (R145, R151). -/
theorem OutputOk.settled (h : OutputOk q p) :
    OutputOk q.settled (p.settled q) ∧ q.settled.PendsOk := by
  cases takes : q.takesRoute with
  | false =>
    obtain ⟨queue, port⟩ := RecordQueue.settled_waits takes p
    rw [queue, port]
    refine ⟨h, fun pends => ?_⟩
    have := mt q.takesRoute_iff.2 (Bool.eq_false_iff.1 takes)
    simp only [RecordQueue.untouched]
    grind
  | true =>
    obtain ⟨queue, port⟩ := RecordQueue.settled_takes takes p
    obtain ⟨differ, whole⟩ := q.takesRoute_iff.1 takes
    have notBegun : q.begun = false := by
      rcases whole with store | ⟨-, notBegun⟩
      · cases begun : q.begun with
        | false => rfl
        | true => exact absurd store (h.busy (h.begun begun))
      · exact notBegun
    have consumed : q.consumed = 0 := whole.elim h.sound.2.2.1 And.left
    rw [queue, port]
    refine ⟨?_, fun pends => absurd rfl pends⟩
    cases requested : q.requested with
    | host => exact (h.enterOff notBegun).aside _ _ _ .host
    | port =>
      have host : q.active = .host := by
        cases active : q.active with
        | host => rfl
        | port => exact absurd (requested.trans active.symm) differ
      exact (h.leaveOff (h.off_iff.2 host) consumed).aside _ _ _ .port

/-! ### Words consumed, records begun and ended -/

/-- On the HOST route a queue whose head moves on stays in agreement with a port in OFF (R139, R141). -/
theorem OutputOk.popped (h : OutputOk q p) (host : q.active = .host) {q' : RecordQueue}
    (sound : q'.Sound) (active : q'.active = q.active) (begun : q'.begun = true → q.begun = true) :
    OutputOk q' p := by
  have off : p.mode = .off := h.off_iff.2 host
  have notBegun := h.not_begun_off off
  have notBegun' : q'.begun = false := by
    cases b : q'.begun with
    | false => rfl
    | true => exact absurd (begun b) (by simp [notBegun])
  refine ⟨sound, by rw [active]; exact h.off_iff, by simp [off], by simp [off], by simp [notBegun'],
    by simp [active, host], by rw [h.frm, notBegun, notBegun'], h.dat, ?_, h.clk⟩
  simp [h.flight_none (by simp [off])]

/-- A QFLUSH leaves an empty store and a port in IDLE, or in OFF (R143, R157). -/
theorem OutputOk.flushed (h : OutputOk q p) : OutputOk q.flush p.flushed where
  sound := by simp [RecordQueue.Sound, RecordQueue.flush, RecordQueue.count]
  off_iff := by
    rw [show q.flush.active = q.active from rfl, ← h.off_iff]
    simp [OutputPort.flushed]
  idle _ := rfl
  busy := by simp only [OutputPort.flushed]; split <;> simp
  begun := nofun
  whole _ _ := rfl
  frm := rfl
  dat _ := rfl
  flight := nofun
  clk := by
    rw [show p.flushed.clk = p.clk from rfl, h.clk]
    simp [OutputPort.flushed]

/-- A word begins on the lines, in a record that is begun (R152, R153). -/
theorem OutputOk.beginWord (h : OutputOk q p) (busy : p.mode = .sending ∨ p.mode = .paused)
    {q' : RecordQueue} (sound : q'.Sound) (store : q'.store = q.store) (active : q'.active = q.active)
    (begun : q'.begun = true) (w : Word) : OutputOk q' (p.beginWord w) := by
  have port : q.active = .port := h.active_port (by rcases busy with m | m <;> simp [m])
  refine ⟨sound, by simp [OutputPort.beginWord, active, port], nofun, fun _ => store ▸ h.busy busy,
    fun _ => .inl rfl, by simp [begun], begun.symm, nofun, ?_, by simp [OutputPort.beginWord]⟩
  rintro n ⟨⟩
  exact ⟨by omega, rfl, begun⟩

/-- A pause begins, before a header or inside a record (R152 to R154). -/
theorem OutputOk.pause (h : OutputOk q p) (sending : p.mode = .sending) {q' : RecordQueue}
    (sound : q'.Sound) (store : q'.store = q.store) (active : q'.active = q.active)
    (begun : q'.begun = q.begun) (whole : q'.begun = false → q'.consumed = 0) :
    OutputOk q' p.pause := by
  have port : q.active = .port := h.active_port (by simp [sending])
  exact ⟨sound, by simp [OutputPort.pause, active, port], nofun, fun _ => store ▸ h.busy (.inl sending),
    fun _ => .inr rfl, fun _ => whole, begun ▸ h.frm, fun _ => rfl, nofun, by simp [OutputPort.pause]⟩

/-- The head record ends on the lines, and the store decides where the port goes (R153). -/
theorem OutputOk.endRecord (h : OutputOk q p) (sending : p.mode = .sending) :
    OutputOk q.skip (p.endRecord (decide (q.skip.store = []))) where
  sound := h.sound.skip
  off_iff := by
    rw [show q.skip.active = q.active from rfl, h.active_port (by simp [sending])]
    simp only [OutputPort.endRecord]
    split <;> simp
  idle := by simp only [OutputPort.endRecord]; split <;> simp_all
  busy := by simp only [OutputPort.endRecord]; split <;> simp_all
  begun := nofun
  whole _ _ := rfl
  frm := rfl
  dat _ := rfl
  flight := nofun
  clk := by
    have := h.clk
    simp only [OutputPort.endRecord]
    split <;> simp_all

/-- The next bit of a word is on the lines (R153). -/
theorem OutputOk.driveBit (h : OutputOk q p) {n : Nat} (flight : p.inFlight = some n) (more : n < 15)
    (dat : Bool) : OutputOk q { p with inFlight := some (n + 1), dat := dat } := by
  obtain ⟨-, sending, begun⟩ := h.flight n flight
  refine ⟨h.sound, h.off_iff, h.idle, h.busy, h.begun, h.whole, h.frm, ?_, ?_, h.clk⟩
  · rw [h.frm, begun]
    exact nofun
  · rintro m ⟨⟩
    exact ⟨more, sending, begun⟩

end

/-! ### Offers -/

theorem offer_outputSafe {s : State} (h : s.OutputSafe) {r : Rec} (record : r ≠ []) :
    (offer r s).OutputSafe := by
  cases fits : s.queue.admits r.length with
  | false =>
    rw [offer_dropped r s fits]
    exact h
  | true =>
    obtain ⟨agree, pends⟩ := s.outputSafe_iff.1 h
    rw [offer_admitted r s fits, State.outputSafe_iff]
    have room := of_decide_eq_true fits
    refine ⟨?_, fun differ => ?_⟩
    · refine (agree.behind ?_ ?_ ?_).aside 0 _ _ _
      · split <;> simp
      · split <;> simp [record, gapRecord]
      · split at room <;> simp_all [gapRecord]
        omega
    · obtain ⟨store, touched⟩ := pends differ
      exact ⟨by simp [store], touched⟩

theorem handEvents_outputSafe {s : State} (h : s.OutputSafe) (blocks : List (List Event)) :
    (handEvents blocks s).OutputSafe := by
  refine offerBlocks_keeps (P := State.OutputSafe) (fun _ h => h) (fun g hg r hr h => ?_) h
  obtain ⟨events, -, rfl⟩ := List.mem_map.1 hg
  exact offer_outputSafe h (eventRecords_headerTrue hr).ne_nil

theorem wordComplete_outputSafe {s : State} (h : s.OutputSafe) (k : Nat) :
    (wordComplete k s).OutputSafe := by
  refine offerBlocks_keeps (P := State.OutputSafe) (fun _ h => h) (fun g hg r hr h => ?_) ?_
  · rcases wordRecords_say hg hr with true | ⟨c, -, -, rfl⟩
    · exact offer_outputSafe h true.ne_nil
    · exact offer_outputSafe h (List.cons_ne_nil _ _)
  · have queue : (discardAtWpf k (reactToWord (s.wordInfo k) (decodeWord (s.wordInfo k) s))).queue
        = s.queue := by simp
    have port : (discardAtWpf k (reactToWord (s.wordInfo k) (decodeWord (s.wordInfo k) s))).port
        = s.port := by simp
    rw [State.OutputSafe, queue, port]
    exact h

theorem startFrame_outputSafe {s : State} (h : s.OutputSafe) (fs : FrameSync) (slip : Int) (first : Bool)
    (events : List Event) : (startFrame fs slip first events s).OutputSafe := by
  refine handEvents_outputSafe ?_ _
  exact h

theorem enterSearch_outputSafe {s : State} (h : s.OutputSafe) (events : List Event) :
    (enterSearch events s).OutputSafe := by
  refine handEvents_outputSafe ?_ _
  exact h

theorem takeSwap_outputSafe {s : State} (h : s.OutputSafe) : (takeSwap s).OutputSafe :=
  handEvents_outputSafe (s := { s with map := s.map.swapped }) h _

theorem leaveRun_outputSafe {s : State} (h : s.OutputSafe) : (leaveRun s).OutputSafe := by
  unfold leaveRun takePendingSwap
  split
  · exact takeSwap_outputSafe h
  · exact h

theorem endValidation_outputSafe {s : State} (h : s.OutputSafe) : (endValidation s).OutputSafe := by
  unfold endValidation
  split
  · split
    · exact h
    · unfold validationPassed
      dsimp only
      split
      · exact h
      · exact takeSwap_outputSafe h
  · exact h

/-! ### Every change -/

/-- A happening at which a pending route change may be taken. -/
theorem settleRoute_outputSafe {s : State} (h : OutputOk s.queue s.port) :
    (settleRoute s).OutputSafe :=
  (settleRoute s).outputSafe_iff.2 h.settled

theorem beginRecord_outputSafe {s : State} (h : s.OutputSafe)
    (busy : s.port.mode = .sending ∨ s.port.mode = .paused) : (beginRecord s).OutputSafe := by
  obtain ⟨agree, pends⟩ := s.outputSafe_iff.1 h
  have queue := agree.beginWord (q' := (beginRecord s).queue) busy agree.sound rfl rfl rfl
  refine (beginRecord s).outputSafe_iff.2 ⟨queue s.queue.nextWord, fun differ => ?_⟩
  exact ⟨(pends differ).1, by simp [RecordQueue.untouched, beginRecord]⟩

theorem State.atBoundary_iff (s : State) :
    s.atBoundary = true
      ↔ s.port.mode = .sending ∧ s.queue.begun = true ∧ s.port.inFlight = some 15 := by
  simp [atBoundary, and_assoc]

theorem RecordQueue.consume_last {q : RecordQueue} (last : q.lastWord = true) : q.consume = q.skip := by
  simp [consume, skip, last]

theorem RecordQueue.consume_more {q : RecordQueue} (more : q.lastWord = false) :
    q.consume = { q with consumed := q.consumed + 1 } := by
  simp [consume, more]

theorem endHead_outputSafe {s : State} (h : s.OutputSafe) (sending : s.port.mode = .sending)
    (last : s.queue.lastWord = true) : (endHead s).OutputSafe := by
  have agree := (s.outputSafe_iff.1 h).1
  unfold endHead
  rw [RecordQueue.consume_last last]
  exact settleRoute_outputSafe (agree.endRecord sending)

theorem nextInRecord_outputSafe {s : State} (h : s.OutputSafe) (boundary : s.atBoundary = true)
    (more : s.queue.lastWord = false) (rdy : Bool) : (nextInRecord rdy s).OutputSafe := by
  obtain ⟨agree, pends⟩ := s.outputSafe_iff.1 h
  obtain ⟨sending, begun, -⟩ := s.atBoundary_iff.1 boundary
  have sound := agree.sound.consume
  rw [State.outputSafe_iff]
  unfold nextInRecord
  rw [RecordQueue.consume_more more] at sound ⊢
  refine ⟨?_, fun differ => ⟨(pends differ).1, by simp [RecordQueue.untouched]⟩⟩
  cases rdy
  · exact agree.pause sending sound rfl rfl rfl (by simp [begun])
  · exact agree.beginWord (.inl sending) sound rfl rfl begun _

theorem Effect.keeps_outputSafe {s t : State} (change : Effect s t) (h : s.OutputSafe) :
    t.OutputSafe := by
  obtain ⟨agree, pends⟩ := s.outputSafe_iff.1 h
  cases change
  case aside same =>
    have blanked : s.work.OutputSafe := h
    rw [← same] at blanked
    exact blanked
  case powerOn | softReset => exact State.reset_outputSafe
  case bit b =>
    exact syncBit_keeps (P := State.OutputSafe) (fun _ h => h)
      (fun _ _ _ _ h => startFrame_outputSafe h _ _ _ _) (fun k h => wordComplete_outputSafe h k)
      (fun _ h => enterSearch_outputSafe h _) b h
  case abandonTiming reason =>
    exact abandonTiming_keeps (P := State.OutputSafe) id (fun _ h => enterSearch_outputSafe h _) reason h
  case leaveRun => exact leaveRun_outputSafe h
  case endValidation => exact endValidation_outputSafe h
  case popWord pops =>
    obtain ⟨host, -⟩ := Bool.and_eq_true_iff.1 pops
    refine settleRoute_outputSafe (agree.popped (of_decide_eq_true host) agree.sound.consume ?_ ?_)
    · unfold RecordQueue.consume; split <;> rfl
    · unfold RecordQueue.consume; split <;> simp
  case skipHead accepted =>
    have host : s.queue.active = .host := by
      have := (Bool.or_eq_false_iff.1 accepted).1
      cases active : s.queue.active <;> simp_all
    exact settleRoute_outputSafe (agree.popped host agree.sound.skip rfl nofun)
  case flushQueue => exact settleRoute_outputSafe agree.flushed
  case writeRoute w => exact settleRoute_outputSafe (agree.aside _ _ _ _)
  case beginRecord waits => exact beginRecord_outputSafe h (waits.imp_left And.left)
  case pause waits =>
    obtain ⟨sending, notBegun⟩ := waits
    refine (State.outputSafe_iff _).2 ⟨agree.pause sending agree.sound rfl rfl rfl fun b => ?_, pends⟩
    exact agree.whole (agree.active_port (by simp [sending])) b
  case driveBit n dat flight more =>
    exact (State.outputSafe_iff _).2 ⟨agree.driveBit flight more dat, pends⟩
  case endHead boundary last =>
    exact endHead_outputSafe h (s.atBoundary_iff.1 boundary).1 last
  case nextInRecord rdy boundary more => exact nextInRecord_outputSafe h boundary more rdy
  all_goals exact h

/-- Settles O58: every step is a chain of changes, and each keeps queue, route and port in agreement. -/
theorem stepsKeepQueueAndPortInAgreement : Obligations.StepsKeepQueueAndPortInAgreement :=
  fun _ _ h next => step_keeps Effect.keeps_outputSafe next h

end Sys2Proof.Machine
end

section
/-! PROOF. The two synchronizers: the counts, marks and states of the Frame Synchronizer (R17, R31), and the
state, phase and counts of the Subframe Synchronizer (R41, R54, Table 3-1). -/

namespace Sys2Proof.Machine

/-! ### The Frame Synchronizer -/

/-- What O59 says of the Frame Synchronizer, under a format and in a run state. -/
structure SyncOk (f : Format) (r : RunState) (fs : FrameSync) : Prop where
  off_iff : r = .idle ↔ fs.sync = .off
  good : if fs.sync = .check then fs.goodCount < f.checkCount else fs.goodCount = 0
  miss : if fs.sync = .coast then 1 ≤ fs.missCount ∧ fs.missCount < f.lockMiss else fs.missCount = 0
  fill : fs.fill ≤ Config.historyBits
  decoded : fs.decodedMark = fs.sync.inLock
  coast : fs.coastMark = decide (fs.sync = .coast)

theorem State.syncSafe_iff (s : State) : s.SyncSafe ↔ s.fmt.InRange ∧ SyncOk s.fmt s.run s.fs := by
  constructor
  · rintro ⟨inRange, off_iff, good, miss, fill, decoded, coast⟩
    exact ⟨inRange, off_iff, good, miss, fill, decoded, coast⟩
  · rintro ⟨inRange, off_iff, good, miss, fill, decoded, coast⟩
    exact ⟨inRange, off_iff, good, miss, fill, decoded, coast⟩

/-- A change that leaves the format and the run state is safe when it leaves the synchronizer so. -/
theorem State.SyncSafe.withFs {s t : State} (h : s.SyncSafe) (fmt : t.fmt = s.fmt) (still : t.run = s.run)
    (ok : SyncOk s.fmt s.run t.fs) : t.SyncSafe := by
  rw [t.syncSafe_iff, fmt, still]
  exact ⟨(s.syncSafe_iff.1 h).1, ok⟩

theorem SyncState.ne_off_of_inLock {y : SyncState} (inLock : y.inLock = true) : y ≠ .off := by
  rintro rfl
  cases inLock

section
variable {f : Format} {r : RunState} {fs : FrameSync}

theorem SyncOk.push (h : SyncOk f r fs) (bit : Bool) : SyncOk f r (fs.push bit) :=
  ⟨h.off_iff, h.good, h.miss, Nat.min_le_left _ _, h.decoded, h.coast⟩

theorem SyncOk.atOffset (h : SyncOk f r fs) (offset : Nat) :
    SyncOk f r { fs with offset := offset } :=
  ⟨h.off_iff, h.good, h.miss, h.fill, h.decoded, h.coast⟩

theorem SyncOk.toSearch (h : SyncOk f r fs) (on : fs.sync ≠ .off) : SyncOk f r fs.toSearch where
  off_iff := by simpa [FrameSync.toSearch] using mt h.off_iff.1 on
  good := rfl
  miss := rfl
  fill := h.fill
  decoded := rfl
  coast := rfl

theorem SyncOk.emptyHistory (h : SyncOk f r fs) : SyncOk f r fs.emptyHistory :=
  ⟨h.off_iff, h.good, h.miss, Nat.zero_le _, h.decoded, h.coast⟩

end

theorem deliverWord_syncSafe {s : State} (h : s.SyncSafe) : (deliverWord s).SyncSafe :=
  h.withFs (by simp) (by simp) (by simpa using (s.syncSafe_iff.1 h).2)

theorem enterSearch_syncSafe {s : State} (h : s.SyncSafe) (on : s.fs.sync ≠ .off)
    (events : List Event) : (enterSearch events s).SyncSafe :=
  h.withFs (by simp) (by simp) (by simpa using (s.syncSafe_iff.1 h).2.toSearch on)

/-- A frame start is safe when the synchronizer after the check is. -/
theorem startFrame_syncSafe {s : State} (h : s.SyncSafe) {fs : FrameSync} (ok : SyncOk s.fmt s.run fs)
    (slip : Int) (first : Bool) (events : List Event) :
    (startFrame fs slip first events s).SyncSafe :=
  h.withFs (by simp) (by simp) (by simpa using ok)

theorem searchBit_syncSafe {s : State} (h : s.SyncSafe) (search : s.fs.sync = .search) :
    (searchBit s).SyncSafe := by
  obtain ⟨inRange, ok⟩ := s.syncSafe_iff.1 h
  obtain ⟨off_iff, good, miss, fill, -, -⟩ := ok
  have atLeastOne : 0 < s.fmt.checkCount := by simp only [Format.InRange] at inRange; omega
  unfold searchBit
  split
  · refine startFrame_syncSafe h ?_ _ _ _
    refine ⟨?_, ?_, ?_, fill, rfl, rfl⟩
    · simpa [search] using off_iff
    · simpa using atLeastOne
    · simpa [search] using miss
  · exact h

theorem checkInCheck_syncSafe {s : State} (h : s.SyncSafe) (check : s.fs.sync = .check) :
    (checkInCheck s).SyncSafe := by
  obtain ⟨off_iff, -, miss, fill, -, -⟩ := (s.syncSafe_iff.1 h).2
  have running : s.run ≠ .idle := by simp [off_iff, check]
  unfold checkInCheck
  split
  · split
    · rename_i below
      refine startFrame_syncSafe h ?_ _ _ _
      refine ⟨?_, ?_, ?_, fill, ?_, ?_⟩
      · simpa [check] using running
      · simpa [check] using below
      · simpa [check] using miss
      · simp [check, SyncState.inLock]
      · simp [check]
    · refine startFrame_syncSafe h ?_ _ _ _
      exact ⟨by simpa using running, rfl, rfl, fill, rfl, rfl⟩
  · exact enterSearch_syncSafe h (by simp [check]) _

theorem syncPass_syncSafe {s : State} (h : s.SyncSafe) (inLock : s.fs.sync.inLock = true) (o : Int) :
    (syncPass o s).SyncSafe := by
  obtain ⟨off_iff, good, -, fill, -, -⟩ := (s.syncSafe_iff.1 h).2
  have notOff := SyncState.ne_off_of_inLock inLock
  have notCheck : s.fs.sync ≠ .check := by rintro check; simp [check, SyncState.inLock] at inLock
  refine startFrame_syncSafe h ?_ _ _ _
  exact ⟨by simpa using mt off_iff.1 notOff, by simpa [notCheck] using good, rfl, fill, rfl, rfl⟩

theorem syncMiss_syncSafe {s : State} (h : s.SyncSafe) (inLock : s.fs.sync.inLock = true) :
    (syncMiss s).SyncSafe := by
  obtain ⟨off_iff, good, miss, fill, decoded, coast⟩ := (s.syncSafe_iff.1 h).2
  have notOff := SyncState.ne_off_of_inLock inLock
  have notCheck : s.fs.sync ≠ .check := by rintro check; simp [check, SyncState.inLock] at inLock
  unfold syncMiss
  dsimp only
  split
  · rename_i below
    refine startFrame_syncSafe h ?_ _ _ _
    exact ⟨by simpa using mt off_iff.1 notOff, by simpa [notCheck] using good, by simpa using below, fill,
      rfl, rfl⟩
  · refine enterSearch_syncSafe ?_ ?_ _
    · exact h.withFs rfl rfl ⟨off_iff, good, miss, fill, decoded, coast⟩
    · exact notOff

theorem checkInLock_syncSafe {s : State} (h : s.SyncSafe) (inLock : s.fs.sync.inLock = true) :
    (checkInLock s).SyncSafe := by
  unfold checkInLock
  split
  · exact deliverWord_syncSafe (syncPass_syncSafe h inLock _)
  · split
    · exact deliverWord_syncSafe (syncMiss_syncSafe h inLock)
    · exact syncMiss_syncSafe h inLock

theorem pushed_syncSafe {s : State} (h : s.SyncSafe) (bit : Bool) : (s.pushed bit).SyncSafe :=
  h.withFs rfl rfl ((s.syncSafe_iff.1 h).2.push bit)

theorem advanced_syncSafe {s : State} (h : s.SyncSafe) (bit : Bool) : (s.advanced bit).SyncSafe :=
  h.withFs rfl rfl (((s.syncSafe_iff.1 h).2.push bit).atOffset _)

theorem syncBit_syncSafe {s : State} (h : s.SyncSafe) (bit : Bool) : (syncBit bit s).SyncSafe := by
  have pushed := pushed_syncSafe h bit
  have advanced := advanced_syncSafe h bit
  rcases syncBit_cases bit s with ⟨-, e⟩ | ⟨search, e⟩ | ⟨-, -, e⟩ | ⟨check, -, e⟩ | ⟨-, -, e⟩
    | ⟨inLock, -, e⟩ <;> rw [e]
  · exact h
  · exact searchBit_syncSafe pushed search
  · exact deliverWord_syncSafe advanced
  · exact checkInCheck_syncSafe advanced check
  · exact deliverWord_syncSafe advanced
  · exact checkInLock_syncSafe advanced inLock

theorem abandonTiming_syncSafe {s : State} (h : s.SyncSafe) (reason : LostReason) :
    (abandonTiming reason s).SyncSafe := by
  unfold abandonTiming
  split
  case h_1 lock | h_2 lock => exact enterSearch_syncSafe (s := interruptFrame s) h (by simp [lock]) _
  case h_3 check => exact enterSearch_syncSafe h (by simp [check]) _
  case h_4 | h_5 => exact h

theorem takeSwap_syncSafe {s : State} (h : s.SyncSafe) : (takeSwap s).SyncSafe :=
  h.withFs (by simp) (by simp) (by simpa using (s.syncSafe_iff.1 h).2)

theorem endValidation_syncSafe {s : State} (h : s.SyncSafe) : (endValidation s).SyncSafe := by
  unfold endValidation
  split
  · split
    · exact h
    · unfold validationPassed
      dsimp only
      split
      · exact h
      · exact takeSwap_syncSafe h
  · exact h

/-- Out of RUN the synchronizer is OFF, whatever the format (R39). -/
theorem toOff_syncOk (f : Format) (fs : FrameSync) : SyncOk f .idle fs.toOff :=
  ⟨by simp [FrameSync.toOff], rfl, rfl, Nat.zero_le _, rfl, rfl⟩

theorem leaveRun_syncSafe {s : State} (h : s.SyncSafe) : (leaveRun s).SyncSafe := by
  have rested : (interruptFrame { s with run := .idle, fs := s.fs.toOff, sf := {} }).SyncSafe :=
    (State.syncSafe_iff _).2 ⟨(s.syncSafe_iff.1 h).1, toOff_syncOk _ _⟩
  unfold leaveRun takePendingSwap
  split
  · exact takeSwap_syncSafe rested
  · exact rested

theorem Effect.keeps_syncSafe {s t : State} (change : Effect s t) (h : s.SyncSafe) : t.SyncSafe := by
  obtain ⟨inRange, ok⟩ := s.syncSafe_iff.1 h
  obtain ⟨off_iff, good, miss, fill, decoded, coast⟩ := ok
  cases change
  case aside same =>
    have blanked : s.work.SyncSafe := h
    rw [← same] at blanked
    exact blanked
  case powerOn => exact State.reset_syncSafe
  case softReset =>
    exact (State.syncSafe_iff _).2 ⟨inRange, toOff_syncOk s.fmt {}⟩
  case bit b => exact syncBit_syncSafe h b
  case abandonTiming reason => exact abandonTiming_syncSafe h reason
  case emptyHistory => exact h.withFs rfl rfl (s.syncSafe_iff.1 h).2.emptyHistory
  case enterRun idle =>
    have off := off_iff.1 idle
    rw [off] at decoded coast
    exact (State.syncSafe_iff _).2
      ⟨inRange, ⟨fun run => (nomatch run), nofun⟩, rfl, rfl, Nat.zero_le _, decoded, coast⟩
  case leaveRun => exact leaveRun_syncSafe h
  case format f idle newInRange =>
    have off := off_iff.1 idle
    exact (State.syncSafe_iff _).2 ⟨newInRange inRange, off_iff, by simpa [off] using good,
      by simpa [off] using miss, fill, decoded, coast⟩
  case endValidation => exact endValidation_syncSafe h
  all_goals exact h

/-! ### The Subframe Synchronizer -/

/-- What O59 says of the Subframe Synchronizer, under a format, a run state and a sync state. -/
structure PhaseOk (f : Format) (r : RunState) (y : SyncState) (sf : SubframeSync) : Prop where
  off_iff : sf.state = .off ↔ r = .idle ∨ f.depth = 1
  search : sf.state = .search → sf.held = none
  off : sf.state = .off → sf.held = if r = .run then some 0 else none
  locked : sf.state = .check ∨ sf.state = .lock → y.inLock = true ∧ ∃ p, sf.held = some p ∧ p < f.depth
  good : if sf.state = .check then sf.goodCount < f.sfCheckCount else sf.goodCount = 0
  miss : if sf.state = .lock then sf.missCount < f.sfMiss else sf.missCount = 0

theorem State.phaseSafe_iff (s : State) : s.PhaseSafe ↔ PhaseOk s.fmt s.run s.fs.sync s.sf := by
  constructor
  · rintro ⟨off_iff, search, off, locked, good, miss⟩
    exact ⟨off_iff, search, off, locked, good, miss⟩
  · rintro ⟨off_iff, search, off, locked, good, miss⟩
    exact ⟨off_iff, search, off, locked, good, miss⟩

section
variable {f : Format} {r : RunState} {y : SyncState} {sf : SubframeSync}

theorem PhaseOk.frameStart (h : PhaseOk f r y sf) (depth : 1 ≤ f.depth) {y' : SyncState}
    (stays : y.inLock = true → y'.inLock = true) (decoded : Bool) :
    PhaseOk f r y' (sf.frameStart f decoded) := by
  obtain ⟨off_iff, search, off, locked, good, miss⟩ := h
  unfold SubframeSync.frameStart
  split
  · rename_i steps
    obtain ⟨inLock, p, held, -⟩ := locked steps.2
    refine ⟨off_iff, fun s => ?_, fun o => ?_, fun l => ⟨stays inLock, (p + 1) % f.depth, ?_⟩, good, miss⟩
    · rcases steps.2 with l | l <;> exact nomatch l.symm.trans s
    · rcases steps.2 with l | l <;> exact nomatch l.symm.trans o
    · exact ⟨by simp [held], Nat.mod_lt _ depth⟩
  · exact ⟨off_iff, search, off, fun l => ⟨stays (locked l).1, (locked l).2⟩, good, miss⟩

/-- SF_SEARCH with nothing held is safe in RUN above DEPTH 1. -/
theorem PhaseOk.searching (running : r ≠ .idle) (deep : f.depth ≠ 1) :
    PhaseOk f r y { state := .search, held := none, goodCount := 0, missCount := 0 } :=
  ⟨by simp [running, deep], fun _ => rfl, nofun, by simp, rfl, rfl⟩

theorem PhaseOk.examine (running : r ≠ .idle) (deep : f.depth ≠ 1) (inLock : y.inLock = true)
    (counts : 1 ≤ f.sfCheckCount) (v : Nat) : PhaseOk f r y (SubframeSync.examine f v) := by
  unfold SubframeSync.examine
  split
  · rename_i p mapped
    have below : p < f.depth := by
      rw [Format.phaseOfSfid_of_candidatePhase rfl, Option.ite_none_right_eq_some] at mapped
      exact Option.some.inj mapped.2 ▸ mapped.1
    exact ⟨by simp [running, deep], nofun, nofun, fun _ => ⟨inLock, p, rfl, below⟩, counts, rfl⟩
  · exact .searching running deep

theorem PhaseOk.read (h : PhaseOk f r y sf) (deep : f.depth ≠ 1) (inLock : y.inLock = true)
    (counts : 1 ≤ f.sfCheckCount) (misses : 1 ≤ f.sfMiss) (v : Nat) : PhaseOk f r y (sf.read f v).1 := by
  have running (on : sf.state ≠ .off) : r ≠ .idle := fun idle => on (h.off_iff.2 (.inl idle))
  obtain ⟨off_iff, search, off, locked, good, miss⟩ := h
  cases state : sf.state with
  | off =>
    simp only [SubframeSync.read, state]
    exact ⟨off_iff, search, off, locked, good, miss⟩
  | search =>
    simp only [SubframeSync.read, state]
    exact .examine (running (by simp [state])) deep inLock counts v
  | check =>
    simp only [state] at off_iff miss
    simp only [SubframeSync.read, state, SubframeSync.readCheck]
    split
    · split
      · rename_i below
        exact ⟨by simpa [state] using off_iff, by simp, by simp, fun _ => locked (.inl state),
          by simpa [state] using below, by simpa [state] using miss⟩
      · exact ⟨by simpa using off_iff, nofun, nofun, fun _ => locked (.inl state), rfl, misses⟩
    · exact .examine (running (by simp [state])) deep inLock counts v
  | lock =>
    simp only [state] at off_iff good
    simp only [SubframeSync.read, state, SubframeSync.readLock]
    split
    · exact ⟨by simpa [state] using off_iff, by simp, by simp, fun _ => locked (.inr state),
        by simpa [state] using good, misses⟩
    · split
      · rename_i below
        exact ⟨by simpa [state] using off_iff, by simp, by simp, fun _ => locked (.inr state),
          by simpa [state] using good, by simpa [state] using below⟩
      · exact .searching (running (by simp [state])) deep

theorem PhaseOk.wordComplete (h : PhaseOk f r y sf) (inRange : f.InRange) (inLock : y.inLock = true)
    (position : Nat) (raw : Word) : PhaseOk f r y (sf.wordComplete f position raw).1 := by
  simp only [Format.InRange] at inRange
  unfold SubframeSync.wordComplete
  split
  · rename_i reads
    exact h.read (by omega) inLock (by omega) (by omega) _
  · exact h

theorem PhaseOk.timingLost (h : PhaseOk f r y sf) (inRange : f.InRange) (running : r ≠ .idle) :
    PhaseOk f r .search (sf.timingLost f) := by
  have depth := inRange.2.2.2.1.1
  unfold SubframeSync.timingLost
  split
  · exact .searching running (by omega)
  · have off : sf.state = .off := h.off_iff.2 (.inr (by omega))
    obtain ⟨off_iff, search, off', -, good, miss⟩ := h
    exact ⟨off_iff, search, off', by simp [off], good, miss⟩

theorem PhaseOk.enterRun (inRange : f.InRange) :
    PhaseOk f .run .search (SubframeSync.enterRun f) := by
  have depth := inRange.2.2.2.1.1
  unfold SubframeSync.enterRun
  split
  · exact .searching nofun (by omega)
  · have shallow : f.depth = 1 := by omega
    exact ⟨by simp [shallow], nofun, fun _ => rfl, by simp, rfl, rfl⟩

/-- Out of RUN the Subframe Synchronizer is in SF_OFF and holds nothing, whatever the format (R55). -/
theorem PhaseOk.resting (f : Format) (y : SyncState) : PhaseOk f .idle y {} :=
  ⟨by simp, nofun, fun _ => rfl, by simp, rfl, rfl⟩

end

/-- A change that leaves the format and the run state is safe when it leaves the synchronizers so. -/
theorem State.phaseSafe_of_sf (s : State) {t : State} (fmt : t.fmt = s.fmt) (still : t.run = s.run)
    (ok : PhaseOk s.fmt s.run t.fs.sync t.sf) : t.PhaseSafe := by
  rw [t.phaseSafe_iff, fmt, still]
  exact ok

theorem State.SyncSafe.depth_pos {s : State} (sync : s.SyncSafe) : 1 ≤ s.fmt.depth :=
  sync.1.2.2.2.1.1

theorem State.SyncSafe.running {s : State} (sync : s.SyncSafe) (on : s.fs.sync ≠ .off) :
    s.run ≠ .idle := mt sync.2.1.1 on

theorem startFrame_phaseSafe {s : State} (sync : s.SyncSafe) (h : s.PhaseSafe) {fs : FrameSync}
    (stays : s.fs.sync.inLock = true → fs.sync.inLock = true) (slip : Int) (first : Bool)
    (events : List Event) : (startFrame fs slip first events s).PhaseSafe :=
  s.phaseSafe_of_sf (by simp) (by simp)
    (by simpa using (s.phaseSafe_iff.1 h).frameStart sync.depth_pos stays fs.decodedMark)

theorem enterSearch_phaseSafe {s : State} (sync : s.SyncSafe) (h : s.PhaseSafe)
    (on : s.fs.sync ≠ .off) (events : List Event) : (enterSearch events s).PhaseSafe :=
  s.phaseSafe_of_sf (by simp) (by simp)
    (by simpa [FrameSync.toSearch] using (s.phaseSafe_iff.1 h).timingLost sync.1 (sync.running on))

/-- A word is delivered in a decoded frame alone, so SF_CHECK and SF_LOCK are entered there alone. -/
theorem deliverWord_phaseSafe {s : State} (sync : s.SyncSafe) (h : s.PhaseSafe) :
    (deliverWord s).PhaseSafe := by
  unfold deliverWord
  split
  · split
    · rename_i decoded
      have inLock : s.fs.sync.inLock = true := (s.syncSafe_iff.1 sync).2.decoded ▸ decoded
      exact s.phaseSafe_of_sf (by simp) (by simp)
        (by simpa using (s.phaseSafe_iff.1 h).wordComplete sync.1 inLock _ _)
    · exact h
  · exact h

theorem searchBit_phaseSafe {s : State} (sync : s.SyncSafe) (h : s.PhaseSafe)
    (search : s.fs.sync = .search) : (searchBit s).PhaseSafe := by
  unfold searchBit
  split
  · exact startFrame_phaseSafe sync h (by simp [search, SyncState.inLock]) _ _ _
  · exact h

theorem checkInCheck_phaseSafe {s : State} (sync : s.SyncSafe) (h : s.PhaseSafe)
    (check : s.fs.sync = .check) : (checkInCheck s).PhaseSafe := by
  have undecoded (fs : FrameSync) : s.fs.sync.inLock = true → fs.sync.inLock = true := by
    simp [check, SyncState.inLock]
  unfold checkInCheck
  split
  · split <;> exact startFrame_phaseSafe sync h (undecoded _) _ _ _
  · exact enterSearch_phaseSafe sync h (by simp [check]) _

theorem syncPass_phaseSafe {s : State} (sync : s.SyncSafe) (h : s.PhaseSafe) (o : Int) :
    (syncPass o s).PhaseSafe := by
  unfold syncPass
  exact startFrame_phaseSafe sync h (fun _ => rfl) _ _ _

theorem syncMiss_phaseSafe {s : State} (sync : s.SyncSafe) (h : s.PhaseSafe)
    (inLock : s.fs.sync.inLock = true) : (syncMiss s).PhaseSafe := by
  unfold syncMiss
  dsimp only
  split
  · exact startFrame_phaseSafe sync h (fun _ => rfl) _ _ _
  · refine enterSearch_phaseSafe ?_ ?_ ?_ _
    · exact sync
    · exact h
    · exact SyncState.ne_off_of_inLock inLock

theorem checkInLock_phaseSafe {s : State} (sync : s.SyncSafe) (h : s.PhaseSafe)
    (inLock : s.fs.sync.inLock = true) : (checkInLock s).PhaseSafe := by
  unfold checkInLock
  split
  · exact deliverWord_phaseSafe (syncPass_syncSafe sync inLock _) (syncPass_phaseSafe sync h _)
  · split
    · exact deliverWord_phaseSafe (syncMiss_syncSafe sync inLock) (syncMiss_phaseSafe sync h inLock)
    · exact syncMiss_phaseSafe sync h inLock

theorem syncBit_phaseSafe {s : State} (sync : s.SyncSafe) (h : s.PhaseSafe) (bit : Bool) :
    (syncBit bit s).PhaseSafe := by
  have pushedSync := pushed_syncSafe sync bit
  have pushed : (s.pushed bit).PhaseSafe := h
  have advancedSync := advanced_syncSafe sync bit
  have advanced : (s.advanced bit).PhaseSafe := h
  rcases syncBit_cases bit s with ⟨-, e⟩ | ⟨search, e⟩ | ⟨-, -, e⟩ | ⟨check, -, e⟩ | ⟨-, -, e⟩
    | ⟨inLock, -, e⟩ <;> rw [e]
  · exact h
  · exact searchBit_phaseSafe pushedSync pushed search
  · exact deliverWord_phaseSafe advancedSync advanced
  · exact checkInCheck_phaseSafe advancedSync advanced check
  · exact deliverWord_phaseSafe advancedSync advanced
  · exact checkInLock_phaseSafe advancedSync advanced inLock

theorem abandonTiming_phaseSafe {s : State} (sync : s.SyncSafe) (h : s.PhaseSafe)
    (reason : LostReason) : (abandonTiming reason s).PhaseSafe := by
  unfold abandonTiming
  split
  case h_1 lock | h_2 lock =>
    exact enterSearch_phaseSafe (s := interruptFrame s) sync h (by simp [lock]) _
  case h_3 check => exact enterSearch_phaseSafe sync h (by simp [check]) _
  case h_4 | h_5 => exact h

theorem takeSwap_phaseSafe {s : State} (h : s.PhaseSafe) : (takeSwap s).PhaseSafe :=
  s.phaseSafe_of_sf (by simp) (by simp) (by simpa using s.phaseSafe_iff.1 h)

theorem endValidation_phaseSafe {s : State} (h : s.PhaseSafe) : (endValidation s).PhaseSafe := by
  unfold endValidation
  split
  · split
    · exact h
    · unfold validationPassed
      dsimp only
      split
      · exact h
      · exact takeSwap_phaseSafe h
  · exact h

theorem leaveRun_phaseSafe (s : State) : (leaveRun s).PhaseSafe := by
  have rested : (interruptFrame { s with run := .idle, fs := s.fs.toOff, sf := {} }).PhaseSafe :=
    (State.phaseSafe_iff _).2 (.resting _ _)
  unfold leaveRun takePendingSwap
  split
  · exact takeSwap_phaseSafe rested
  · exact rested

theorem Effect.keeps_phaseSafe {s t : State} (change : Effect s t) (sync : s.SyncSafe)
    (h : s.PhaseSafe) : t.PhaseSafe := by
  cases change
  case aside same =>
    have blanked : s.work.PhaseSafe := h
    rw [← same] at blanked
    exact blanked
  case powerOn => exact State.reset_phaseSafe
  case softReset => exact (State.phaseSafe_iff _).2 (.resting _ _)
  case bit b => exact syncBit_phaseSafe sync h b
  case abandonTiming reason => exact abandonTiming_phaseSafe sync h reason
  case enterRun => exact (State.phaseSafe_iff _).2 (.enterRun sync.1)
  case leaveRun => exact leaveRun_phaseSafe s
  case format f idle _ =>
    obtain ⟨off_iff, search, off, locked, good, miss⟩ := s.phaseSafe_iff.1 h
    have stateOff : s.sf.state = .off := off_iff.2 (.inl idle)
    exact (State.phaseSafe_iff _).2 ⟨by simp [idle, stateOff], search, off, by simp [stateOff],
      by simpa [stateOff] using good, by simpa [stateOff] using miss⟩
  case endValidation => exact endValidation_phaseSafe h
  all_goals exact h

/-- Settles O59: every step is a chain of changes, and each keeps the two synchronizers sound, the
Subframe Synchronizer by what holds of the Frame Synchronizer. -/
theorem stepsKeepTheSynchronizersSound : Obligations.StepsKeepTheSynchronizersSound :=
  fun _ _ sync phase next => step_keeps (Inv := fun s => s.SyncSafe ∧ s.PhaseSafe)
    (fun change h => ⟨change.keeps_syncSafe h.1, change.keeps_phaseSafe h.1 h.2⟩) next ⟨sync, phase⟩

end Sys2Proof.Machine
end

section
/-! PROOF. Held upper parts and captures belong to decoded frames whose word WPF has not completed (6.3, R121,
R125), and every record's header is true (R133). -/

namespace Sys2Proof.Machine

/-! ### The frame layout (R1, R21) -/

/-- The word at position k completes at offset SYNC_LEN + k x WLEN - 1. -/
theorem Format.completedAt_iff {f : Format} (h : f.InRange) (offset k : Nat) :
    f.completedAt offset = some k ↔ 1 ≤ k ∧ k ≤ f.wpf ∧ offset + 1 = f.syncLen + k * f.wlen := by
  have wlen : 0 < f.wlen := by have := h.2.1.1; omega
  simp only [completedAt, Option.ite_none_right_eq_some, Option.some.injEq]
  constructor
  · rintro ⟨⟨whole, first, last⟩, rfl⟩
    have data := Nat.div_mul_cancel (Nat.dvd_of_mod_eq_zero whole)
    have := Nat.mul_le_mul_right f.wlen first
    exact ⟨first, last, by omega⟩
  · rintro ⟨first, last, at_⟩
    have data : offset + 1 - f.syncLen = k * f.wlen := by omega
    simp [data, Nat.mul_div_cancel _ wlen, first, last]

/-! ### Headers -/

theorem offer_headersTrue {s : State} (h : s.HeadersTrue) {r : Rec} (ok : HeaderTrue r) :
    (offer r s).HeadersTrue := by
  cases fits : s.queue.admits r.length with
  | false =>
    rw [offer_dropped r s fits]
    exact h
  | true =>
    rw [offer_admitted r s fits]
    intro x hx
    rcases List.mem_append.1 hx with old | new
    · exact h x old
    · split at new
      · exact List.mem_singleton.1 new ▸ ok
      · simp only [List.mem_cons, List.not_mem_nil, or_false] at new
        rcases new with rfl | rfl
        · exact gapRecord_headerTrue _
        · exact ok

theorem handEvents_headersTrue {s : State} (h : s.HeadersTrue) (blocks : List (List Event)) :
    (handEvents blocks s).HeadersTrue := by
  refine offerBlocks_keeps (P := State.HeadersTrue) (fun _ h => h) (fun g hg r hr h => ?_) h
  obtain ⟨events, -, rfl⟩ := List.mem_map.1 hg
  exact offer_headersTrue h (eventRecords_headerTrue hr)

theorem startFrame_headersTrue {s : State} (h : s.HeadersTrue) (fs : FrameSync) (slip : Int)
    (first : Bool) (events : List Event) : (startFrame fs slip first events s).HeadersTrue := by
  refine handEvents_headersTrue ?_ _
  exact h

theorem enterSearch_headersTrue {s : State} (h : s.HeadersTrue) (events : List Event) :
    (enterSearch events s).HeadersTrue := by
  refine handEvents_headersTrue ?_ _
  exact h

theorem takeSwap_headersTrue {s : State} (h : s.HeadersTrue) : (takeSwap s).HeadersTrue := by
  refine handEvents_headersTrue ?_ _
  exact h

/-- A captured frame's record is short enough for its header when its buffer is. -/
theorem wordComplete_headersTrue {s : State} (h : s.HeadersTrue) (k : Nat)
    (short : ∀ c, s.cap.current = some c → c.buffer.length < 512) :
    (wordComplete k s).HeadersTrue := by
  refine offerBlocks_keeps (P := State.HeadersTrue) (fun _ h => h) (fun g hg r hr h => ?_) ?_
  · rcases wordRecords_say hg hr with ok | ⟨c, current, -, rfl⟩
    · exact offer_headersTrue h ok
    · refine offer_headersTrue h (frameRecord_headerTrue ?_)
      have := short c current
      simp only [Capture.append]
      split <;> simp <;> omega
  · have queue : (discardAtWpf k (reactToWord (s.wordInfo k) (decodeWord (s.wordInfo k) s))).queue
        = s.queue := by simp
    rw [State.HeadersTrue, queue]
    exact h

/-! ### Held parts and captures -/

/-- No upper part is held and no capture is in progress. -/
def State.NoWork (s : State) : Prop :=
  s.cap.current = none ∧ ∀ p ∈ s.chan.entries, p.2.held = none

/-- A capture is in progress or an upper part is held. -/
def State.HasWork (s : State) : Prop :=
  s.cap.current ≠ none ∨ ∃ p ∈ s.chan.entries, p.2.held ≠ none

theorem State.noWork_iff (s : State) : s.NoWork ↔ ¬ s.HasWork := by
  simp [NoWork, HasWork]

theorem State.NoWork.safe {s : State} (h : s.NoWork) : s.FrameWorkSafe ∧ s.BufferSafe := by
  refine ⟨fun work => absurd work (s.noWork_iff.1 h), fun c current => ?_⟩
  rw [h.1] at current
  cases current

/-- Work in progress is in the frame so far, the word that the newest bit completes not yet delivered. -/
def State.WorkBeforeWord (s : State) : Prop :=
  (s.HasWork → s.fs.sync.inLock = true ∧ s.fs.offset + 1 ≤ s.fmt.frameLength)
    ∧ ∀ c, s.cap.current = some c → c.buffer.length * s.fmt.wlen ≤ s.fs.offset - s.fmt.syncLen

/-- A frame has begun: a capture of it is empty. -/
def State.WorkBegun (s : State) : Prop :=
  s.FrameWorkSafe ∧ ∀ c, s.cap.current = some c → c.buffer = []

theorem State.WorkBegun.beforeWord {s : State} (h : s.WorkBegun) : s.WorkBeforeWord := by
  refine ⟨fun work => ?_, fun c current => by simp [h.2 c current]⟩
  obtain ⟨inLock, inside⟩ := h.1 work
  exact ⟨inLock, inside.le⟩

theorem State.WorkBegun.safe {s : State} (h : s.WorkBegun) : s.FrameWorkSafe ∧ s.BufferSafe :=
  ⟨h.1, fun c current => by simp [h.2 c current]⟩

theorem interruptFrame_noWork (s : State) : (interruptFrame s).NoWork := by
  refine ⟨rfl, fun p hp => ?_⟩
  obtain ⟨q, -, rfl, -⟩ := Memory.mem_mapAll _ _ _ _ hp
  rfl

theorem ChannelTable.clearAll_held (t : ChannelTable) : ∀ p ∈ t.clearAll.entries, p.2.held = none := by
  intro p hp
  obtain ⟨q, -, rfl, -⟩ := Memory.mem_mapAll _ _ _ _ hp
  rfl

theorem enterSearch_noWork {s : State} (h : s.NoWork) (events : List Event) :
    (enterSearch events s).NoWork := by
  simpa [State.NoWork] using h

/-- Work in progress over a frame that is not decoded would break the rule, so there is none. -/
theorem State.FrameWorkSafe.noWork {s : State} (h : s.FrameWorkSafe)
    (ended : s.fs.sync.inLock = false ∨ s.fmt.frameLength ≤ s.fs.offset + 1) : s.NoWork := by
  refine s.noWork_iff.2 fun work => ?_
  obtain ⟨inLock, inside⟩ := h work
  rcases ended with undecoded | past
  · simp [inLock] at undecoded
  · omega

theorem CaptureUnit.frameStart_current {u : CaptureUnit} (idle : u.current = none) (i : FrameInfo)
    (phase : Option Nat) :
    (u.frameStart i phase).current = none ∨
      i.decoded = true ∧ ∃ c, (u.frameStart i phase).current = some c ∧ c.buffer = [] := by
  unfold frameStart
  split
  · rename_i decoded
    split
    · exact .inl idle
    · split
      · exact .inl idle
      · exact .inr ⟨decoded, _, rfl, rfl⟩
  · exact .inl idle

/-- A frame start over no work leaves at most an empty capture of a decoded frame. -/
theorem startFrame_workBegun {s : State} (h : s.NoWork) {fs : FrameSync}
    (decoded : fs.decodedMark = true → fs.sync.inLock = true ∧ fs.offset + 1 < s.fmt.frameLength)
    (slip : Int) (first : Bool) (events : List Event) :
    (startFrame fs slip first events s).WorkBegun := by
  obtain ⟨idle, notHeld⟩ := h
  rcases CaptureUnit.frameStart_current idle
      { fsn := fs.fsn, decoded := fs.decodedMark, coast := fs.coastMark, slip := slip, first := first }
      (phaseAtStart fs.decodedMark s) with still | ⟨dec, c, begun, empty⟩
  · have : (startFrame fs slip first events s).NoWork :=
      ⟨by rw [startFrame_cap, still], by simpa using notHeld⟩
    refine ⟨this.safe.1, fun c current => ?_⟩
    rw [this.1] at current
    cases current
  · refine ⟨fun _ => by simpa using decoded dec, fun c' current => ?_⟩
    rw [startFrame_cap, begun] at current
    cases current
    exact empty

/-- The words kept of a frame so far are fewer than the positions completed, the newest included. -/
theorem State.WorkBeforeWord.buffer_lt {s : State} (h : s.WorkBeforeWord) (inRange : s.fmt.InRange)
    {k : Nat} (first : 1 ≤ k) (completes : s.fs.offset + 1 = s.fmt.syncLen + k * s.fmt.wlen)
    {c : Capture} (current : s.cap.current = some c) : c.buffer.length < k := by
  have kept := h.2 c current
  have wlen : 0 < s.fmt.wlen := by have := inRange.2.1.1; omega
  have some := Nat.mul_le_mul_right s.fmt.wlen first
  exact Nat.lt_of_mul_lt_mul_right (a := s.fmt.wlen) (by omega)

/-- A word that completes inside the frame adds at most one word to the buffer; word WPF ends all work of
the frame (R110, R125, R126). -/
theorem wordComplete_workSafe {s : State} (inRange : s.fmt.InRange) (inLock : s.fs.sync.inLock = true)
    (h : s.WorkBeforeWord) {k : Nat} (first : 1 ≤ k) (last : k ≤ s.fmt.wpf)
    (completes : s.fs.offset + 1 = s.fmt.syncLen + k * s.fmt.wlen) :
    (wordComplete k s).FrameWorkSafe ∧ (wordComplete k s).BufferSafe := by
  by_cases isLast : k = s.fmt.wpf
  · refine State.NoWork.safe ⟨by simp [CaptureUnit.wordComplete, isLast], fun p hp => ?_⟩
    simp only [wordComplete, offerBlocks_chan, discardAtWpf, reactToWord_fmt, decodeWord_fmt,
      if_pos isLast] at hp
    obtain ⟨q, -, rfl, -⟩ := Memory.mem_mapAll _ _ _ _ hp
    rfl
  · have wlen : 0 < s.fmt.wlen := by have := inRange.2.1.1; omega
    have inside : k * s.fmt.wlen < s.fmt.wpf * s.fmt.wlen :=
      Nat.mul_lt_mul_of_pos_right (by omega) wlen
    refine ⟨fun _ => ?_, fun c current => ?_⟩
    · simp only [wordComplete_fs, wordComplete_fmt, Format.frameLength]
      exact ⟨inLock, by omega⟩
    · simp only [wordComplete_cap, CaptureUnit.wordComplete, isLast, decide_false, Bool.false_eq_true,
        if_false, Option.map_eq_some_iff] at current
      obtain ⟨before, current, rfl⟩ := current
      have fewer := h.buffer_lt inRange first completes current
      have := Nat.mul_le_mul_right s.fmt.wlen fewer
      simp only [wordComplete_fs, wordComplete_fmt, completes, Nat.add_sub_cancel_left]
      refine le_trans (Nat.mul_le_mul_right _ ?_) this
      simp only [Capture.append]
      split <;> simp

/-- What O60 says of a state. -/
def State.WorkSafe (s : State) : Prop := s.FrameWorkSafe ∧ s.BufferSafe ∧ s.HeadersTrue

theorem State.WorkBegun.workSafe {s : State} (h : s.WorkBegun) (headers : s.HeadersTrue) : s.WorkSafe :=
  ⟨h.safe.1, h.safe.2, headers⟩

theorem State.NoWork.workSafe {s : State} (h : s.NoWork) (headers : s.HeadersTrue) : s.WorkSafe :=
  ⟨h.safe.1, h.safe.2, headers⟩

/-- The delivery of the word that the newest bit completes, if any, keeps the frame's work inside it. -/
theorem deliverWord_workSafe {s : State} (sync : s.SyncSafe) (h : s.WorkBeforeWord)
    (headers : s.HeadersTrue) : (deliverWord s).WorkSafe := by
  obtain ⟨inRange, ok⟩ := s.syncSafe_iff.1 sync
  unfold deliverWord
  split
  · rename_i k completed
    obtain ⟨first, last, completes⟩ := (Format.completedAt_iff inRange _ _).1 completed
    split
    · rename_i decoded
      have inLock : s.fs.sync.inLock = true := ok.decoded ▸ decoded
      obtain ⟨work, buffer⟩ := wordComplete_workSafe inRange inLock h first last completes
      refine ⟨work, buffer, wordComplete_headersTrue headers k fun c current => ?_⟩
      have := h.buffer_lt inRange first completes current
      have := inRange.2.2.1.2
      omega
    · rename_i notDecoded
      have undecoded : s.fs.sync.inLock = false := by rw [← ok.decoded]; simpa using notDecoded
      refine State.NoWork.workSafe (s.noWork_iff.2 fun work => ?_) headers
      simp [(h.1 work).1] at undecoded
  · rename_i notCompleted
    refine ⟨fun work => ?_, fun c current => ?_, headers⟩
    · obtain ⟨inLock, inside⟩ := h.1 work
      refine ⟨inLock, lt_of_le_of_ne inside fun atEnd => ?_⟩
      have lastWord := (Format.completedAt_iff inRange s.fs.offset s.fmt.wpf).2
        ⟨by have := inRange.2.2.1.1; omega, le_rfl, atEnd⟩
      simp [lastWord] at notCompleted
    · have := h.2 c current
      omega

/-! ### One bit -/

theorem advanced_beforeWord {s : State} (work : s.FrameWorkSafe) (buffer : s.BufferSafe) (bit : Bool) :
    (s.advanced bit).WorkBeforeWord :=
  ⟨fun has => (work has).imp id fun inside => inside, fun c current => buffer c current⟩

theorem searchBit_workSafe {s : State} (h : s.NoWork) (headers : s.HeadersTrue) :
    (searchBit s).WorkSafe := by
  unfold searchBit
  split
  · refine (startFrame_workBegun h ?_ _ _ _).workSafe (startFrame_headersTrue headers _ _ _ _)
    exact nofun
  · exact h.workSafe headers

theorem checkInCheck_workSafe {s : State} (inRange : s.fmt.InRange) (h : s.NoWork)
    (headers : s.HeadersTrue) : (checkInCheck s).WorkSafe := by
  unfold checkInCheck
  split
  · split
    · refine (startFrame_workBegun h ?_ _ _ _).workSafe (startFrame_headersTrue headers _ _ _ _)
      exact nofun
    · refine (startFrame_workBegun h (fun _ => ⟨rfl, ?_⟩) _ _ _).workSafe
        (startFrame_headersTrue headers _ _ _ _)
      have := Nat.mul_pos (by have := inRange.2.2.1.1; omega : 0 < s.fmt.wpf)
        (by have := inRange.2.1.1; omega : 0 < s.fmt.wlen)
      have := inRange.1.1
      simp only [Format.frameLength]
      omega
  · exact (enterSearch_noWork h _).workSafe (enterSearch_headersTrue headers _)

/-- A frame holds at least two words of four bits, more than the slip window reaches into it. -/
theorem Format.InRange.frameLength_ge {f : Format} (h : f.InRange) : f.syncLen + 8 ≤ f.frameLength := by
  have := Nat.mul_le_mul h.2.2.1.1 h.2.1.1
  simp only [frameLength]
  omega

theorem State.takenOffset_within {s : State} {o : Int} (taken : s.takenOffset = some o) :
    o.natAbs ≤ s.fmt.slipWin := by
  have tried := List.mem_of_find?_eq_some taken
  simpa using (List.mem_filter.1 tried).2

theorem checkInLock_workSafe {s : State} (sync : s.SyncSafe) (inLock : s.fs.sync.inLock = true)
    (h : s.NoWork) (headers : s.HeadersTrue) : (checkInLock s).WorkSafe := by
  have long := sync.1.frameLength_ge
  have window : s.fmt.slipWin ≤ 2 := by have := sync.1; simp only [Format.InRange] at this; omega
  have syncLen := sync.1.1.1
  unfold checkInLock
  split
  · rename_i o taken
    have within := State.takenOffset_within taken
    refine deliverWord_workSafe (syncPass_syncSafe sync inLock o) ?_ ?_
    · refine (startFrame_workBegun h (fun _ => ⟨rfl, ?_⟩) _ _ _).beforeWord
      dsimp only
      omega
    · exact startFrame_headersTrue headers _ _ _ _
  · split
    · rename_i below
      have miss := syncMiss_syncSafe sync inLock
      simp only [syncMiss, if_pos below] at miss ⊢
      refine deliverWord_workSafe miss ?_ ?_
      · refine (startFrame_workBegun h (fun _ => ⟨rfl, ?_⟩) _ _ _).beforeWord
        dsimp only
        omega
      · exact startFrame_headersTrue headers _ _ _ _
    · rename_i lost
      simp only [syncMiss, if_neg lost]
      refine State.NoWork.workSafe (enterSearch_noWork ?_ _) (enterSearch_headersTrue ?_ _)
      · exact h
      · exact headers

theorem syncBit_workSafe {s : State} (sync : s.SyncSafe) (h : s.WorkSafe) (bit : Bool) :
    (syncBit bit s).WorkSafe := by
  obtain ⟨work, buffer, headers⟩ := h
  have advancedSync := advanced_syncSafe sync bit
  have before := advanced_beforeWord work buffer bit
  rcases syncBit_cases bit s with ⟨-, e⟩ | ⟨search, e⟩ | ⟨-, -, e⟩ | ⟨check, -, e⟩ | ⟨-, -, e⟩
    | ⟨inLock, atEnd, e⟩ <;> rw [e]
  · exact ⟨work, buffer, headers⟩
  · have none : (s.pushed bit).NoWork := work.noWork (.inl (by simp [search, SyncState.inLock]))
    exact searchBit_workSafe none headers
  · exact deliverWord_workSafe advancedSync before headers
  · have none : (s.advanced bit).NoWork := work.noWork (.inl (by simp [check, SyncState.inLock]))
    exact checkInCheck_workSafe sync.1 none headers
  · exact deliverWord_workSafe advancedSync before headers
  · have none : (s.advanced bit).NoWork := by
      refine work.noWork (.inr ?_)
      have := sync.1.1.1
      simp only [Format.syncEnd] at atEnd
      omega
    exact checkInLock_workSafe advancedSync inLock none headers

theorem abandonTiming_workSafe {s : State} (h : s.WorkSafe) (reason : LostReason) :
    (abandonTiming reason s).WorkSafe := by
  obtain ⟨work, buffer, headers⟩ := h
  have interrupted : (interruptFrame s).HeadersTrue := headers
  unfold abandonTiming
  split
  case h_1 | h_2 =>
    exact (enterSearch_noWork (interruptFrame_noWork s) _).workSafe
      (enterSearch_headersTrue interrupted _)
  case h_3 check =>
    have none := work.noWork (.inl (by simp [check, SyncState.inLock]))
    exact (enterSearch_noWork none _).workSafe (enterSearch_headersTrue headers _)
  case h_4 | h_5 => exact ⟨work, buffer, headers⟩

/-! ### Every change -/

theorem takeSwap_workSafe {s : State} (h : s.WorkSafe) : (takeSwap s).WorkSafe := by
  obtain ⟨work, buffer, headers⟩ := h
  refine ⟨?_, ?_, takeSwap_headersTrue headers⟩
  · simpa [State.FrameWorkSafe] using work
  · simpa [State.BufferSafe] using buffer

theorem endValidation_workSafe {s : State} (h : s.WorkSafe) : (endValidation s).WorkSafe := by
  unfold endValidation
  split
  · split
    · exact h
    · unfold validationPassed
      dsimp only
      split
      · exact h
      · exact takeSwap_workSafe h
  · exact h

theorem leaveRun_workSafe {s : State} (headers : s.HeadersTrue) : (leaveRun s).WorkSafe := by
  have rested : (interruptFrame { s with run := .idle, fs := s.fs.toOff, sf := {} }).WorkSafe :=
    (interruptFrame_noWork _).workSafe headers
  unfold leaveRun takePendingSwap
  split
  · exact takeSwap_workSafe rested
  · exact rested

/-- A host write to word 0 of an entry leaves its held part (R116). -/
theorem writeChannel_hasWork {s : State} {c : Nat} {w : Word}
    (has : State.HasWork { s with chan := s.chan.setEntry c ((s.chan.entry c).writeWord0 w) }) :
    s.HasWork := by
  rcases has with current | ⟨p, listed, held⟩
  · exact .inl current
  · rcases Memory.mem_write listed with old | rfl
    · exact .inr ⟨p, old, held⟩
    · rcases Memory.read_eq_or_mem {} s.chan.entries c with unlisted | listed
      · rw [ChannelTable.entry, unlisted] at held
        exact absurd rfl held
      · exact .inr ⟨_, listed, held⟩

theorem RecordQueue.mem_consume {q : RecordQueue} {r : Rec} (hr : r ∈ q.consume.store) : r ∈ q.store := by
  unfold consume at hr
  split at hr
  · exact List.mem_of_mem_tail hr
  · exact hr

theorem Effect.keeps_workSafe {s t : State} (change : Effect s t) (sync : s.SyncSafe) (h : s.WorkSafe) :
    t.WorkSafe := by
  have whole := h
  obtain ⟨work, buffer, headers⟩ := h
  -- Out of RUN nothing is in progress.
  have resting (idle : s.run = .idle) : s.NoWork :=
    work.noWork (.inl (by simp [sync.2.1.1 idle, SyncState.inLock]))
  cases change
  case aside same =>
    have blanked : s.work.WorkSafe := whole
    rw [← same] at blanked
    exact blanked
  case powerOn => exact ⟨State.reset_frameWorkSafe, nofun, nofun⟩
  case softReset => exact State.NoWork.workSafe ⟨rfl, s.chan.clearAll_held⟩ nofun
  case bit b => exact syncBit_workSafe sync whole b
  case abandonTiming reason => exact abandonTiming_workSafe whole reason
  case enterRun idle => exact State.NoWork.workSafe (resting idle) headers
  case leaveRun => exact leaveRun_workSafe headers
  case format idle _ => exact State.NoWork.workSafe (resting idle) headers
  case endValidation => exact endValidation_workSafe whole
  case writeChannel w _ => exact ⟨fun has => work (writeChannel_hasWork has), buffer, headers⟩
  case clearChannels =>
    refine ⟨fun has => work (has.imp_right fun ⟨p, listed, held⟩ => ?_), buffer, headers⟩
    exact absurd (s.chan.clearAll_held p listed) held
  case popWord => exact ⟨work, buffer, fun r hr => headers r (RecordQueue.mem_consume hr)⟩
  case skipHead => exact ⟨work, buffer, fun r hr => headers r (List.mem_of_mem_tail hr)⟩
  case flushQueue => exact ⟨work, buffer, nofun⟩
  case endHead => exact ⟨work, buffer, fun r hr => headers r (RecordQueue.mem_consume hr)⟩
  case nextInRecord => exact ⟨work, buffer, fun r hr => headers r (RecordQueue.mem_consume hr)⟩
  all_goals exact whole

/-- Settles O60: every step is a chain of changes, and each keeps the frame's work inside it, by what
holds of the Frame Synchronizer. -/
theorem stepsKeepFrameWorkInsideFrames : Obligations.StepsKeepFrameWorkInsideFrames :=
  fun _ _ sync work buffer headers next =>
    (step_keeps (Inv := fun s => s.SyncSafe ∧ s.WorkSafe)
      (fun change h => ⟨change.keeps_syncSafe h.1, change.keeps_workSafe h.1 h.2⟩) next
      ⟨sync, work, buffer, headers⟩).2

end Sys2Proof.Machine
end

section
/-! PROOF. The queue of waiting commands, which no command touches (log 19), and the idle step (log 1). -/

namespace Sys2Proof.Machine

/-! ### The queue of waiting commands -/

@[simp] theorem abandonTiming_pending (reason : LostReason) (s : State) :
    (abandonTiming reason s).pending = s.pending := by
  unfold abandonTiming; split <;> simp

@[simp] theorem clockLost_pending (s : State) : (clockLost s).pending = s.pending := by
  unfold clockLost; dsimp only; split <;> simp

@[simp] theorem takePendingSwap_pending (s : State) : (takePendingSwap s).pending = s.pending := by
  unfold takePendingSwap; split <;> simp

@[simp] theorem leaveRun_pending (s : State) : (leaveRun s).pending = s.pending := by simp [leaveRun]

@[simp] theorem syncBit_pending (bit : Bool) (s : State) : (syncBit bit s).pending = s.pending :=
  syncBit_keeps (P := fun t => t.pending = s.pending) (fun _ h => h) (fun _ _ _ _ h => by simpa using h)
    (fun _ h => by simpa using h) (fun _ h => by simpa using h) bit rfl

@[simp] theorem endValidation_pending (s : State) : (endValidation s).pending = s.pending := by
  unfold endValidation
  split
  · split
    · rfl
    · unfold validationPassed; dsimp only; split <;> simp
  · rfl

@[simp] theorem refuseIf_pending (refused : Bool) (result : CmdResult) {effect : State → State} (s : State)
    (keeps : (effect s).pending = s.pending) :
    (refuseIf refused result effect s).2.pending = s.pending := by
  cases refused
  · exact keeps
  · rfl

theorem commandOf_pending (code : BitVec 8) (s : State) : (commandOf code s).2.pending = s.pending := by
  unfold commandOf
  split
  case h_1 => unfold startCmd; split <;> (try split) <;> rfl
  case h_2 => exact refuseIf_pending _ _ s (by simp)
  case h_3 => exact refuseIf_pending _ _ s (by simp)
  case h_4 | h_5 | h_7 => exact refuseIf_pending _ _ s rfl
  all_goals rfl

theorem writeTable_pending (sp : Space) (k : Nat) (w : Word) (s : State) :
    (writeTable sp k w s).pending = s.pending := by
  have bank (which : Bank) (bsp : BankSpace) : (writeBank which bsp k w s).pending = s.pending := by
    unfold writeBank; split <;> rfl
  cases sp
  case mapA | mapB | listsA | listsB | poolA | poolB => exact bank _ _
  case profiles =>
    unfold writeTable writeProfile
    dsimp only
    split
    · split <;> rfl
    · rfl
  case channels => unfold writeTable writeChannel; dsimp only; split <;> rfl
  case summary => rfl

theorem writeTdata_pending (w : Word) (s : State) : (writeTdata w s).pending = s.pending := by
  unfold writeTdata
  split
  · simp [writeTable_pending]
  · rfl

theorem hostWrite_pending (addr : BitVec 6) (w : Word) (s : State) :
    (hostWrite addr w s).pending = s.pending := by
  have format (a : Nat) : (writeFormat a w s).pending = s.pending := by
    unfold writeFormat
    split
    · rfl
    · split <;> rfl
  have position (n : Nat) : (writeMarkPos n w s).pending = s.pending := by
    unfold writeMarkPos; split <;> rfl
  unfold hostWrite
  split
  case h_1 => exact commandOf_pending _ s
  case h_2 => unfold writeTspace; dsimp only; split <;> rfl
  case h_4 => exact writeTdata_pending w s
  case h_17 => unfold writeClkloss; split <;> rfl
  case h_19 => unfold writeThreshold; split <;> rfl
  case h_27 | h_28 | h_29 | h_30 => exact position _
  case h_3 | h_18 | h_20 | h_21 | h_22 | h_23 | h_24 | h_25 | h_26 | h_31 | h_32 | h_33 | h_34 | h_35
    | h_36 => rfl
  all_goals exact format _

theorem effectOf_pending (c : Instr) (s : State) (other : c ≠ .resetRelease) :
    (effectOf c s).pending = s.pending := by
  cases c
  case resetRelease => exact absurd rfl other
  case bitArrival edge level =>
    dsimp only [effectOf]
    split
    · simp [acceptBit]
    · rfl
  case clockLoss =>
    rcases loseClock_cases s with ⟨-, e⟩ | ⟨-, -, e⟩ <;> simp [effectOf, e]
  case portStallExpiry =>
    rcases expireStall_cases s with ⟨-, e⟩ | ⟨-, e⟩ <;> simp [effectOf, e, portStalled]
  case validationEnd => exact endValidation_pending s
  case portRecordBegin rdy =>
    dsimp only [effectOf, portBegin]
    split
    · cases rdy <;> rfl
    · rfl
  case portWordBoundary rdy =>
    dsimp only [effectOf, portBoundary]
    split
    · split <;> rfl
    · rfl
  case portPauseEnd => dsimp only [effectOf, endPause]; split <;> rfl
  case portBitDrive =>
    dsimp only [effectOf, portBit]
    split
    · split <;> rfl
    · rfl
  case formatRegisterWrite addr w | registerWrite addr w => exact hostWrite_pending addr w s
  case clklossUsWrite w => exact hostWrite_pending 0x14 w s
  case tspaceWrite w => exact hostWrite_pending 0x05 w s
  case tdataWrite w => exact hostWrite_pending 0x07 w s
  case qdataRead => dsimp only [effectOf, readQdata]; split <;> rfl
  case tdataRead => dsimp only [effectOf, readTdata]; split <;> rfl
  case start => exact commandOf_pending 0x01 s
  case stop => exact commandOf_pending 0x02 s
  case resync => exact commandOf_pending 0x03 s
  case swap => exact commandOf_pending 0x04 s
  case cancelSwap => exact commandOf_pending 0x05 s
  case qflush => exact commandOf_pending 0x06 s
  case skipRecord => exact commandOf_pending 0x07 s
  case unnamedCommandCode w => exact commandOf_pending _ s
  all_goals rfl

/-- Settles O3: no command's effect touches the queue, the release of RESET# by its own form. -/
theorem everyCommandCompletesKeepingTheQueue : Obligations.EveryCommandCompletesKeepingTheQueue := by
  intro c s
  by_cases release : c = .resetRelease
  · subst release
    exact ⟨_, rfl, rfl⟩
  · cases reset : s.resetAsserted
    · exact ⟨_, exec_released c s reset, effectOf_pending c s release⟩
    · refine ⟨_, exec_asserted c s reset release, ?_⟩
      split <;> rfl

/-! ### One REFCLK period -/

theorem State.stallExpires_iff (s : State) :
    s.stallExpires = true
      ↔ ∃ e, s.port.stall = .running e ∧ s.port.stallMs * 10000 ≤ e + 1 := by
  simp [State.stallExpires, Timer.expires_iff, Config.refclkPerMs]

/-- The clock-loss happening and the stall timer do not meet: it stops the loss timer, and leaves the mark of
RESET# and the stall timer as they were (R9). -/
theorem clockLost_timers (s : State) :
    (clockLost s).clock = { present := false, timer := .stopped }
      ∧ (clockLost s).resetAsserted = s.resetAsserted
      ∧ (clockLost s).port.stall = s.port.stall ∧ (clockLost s).port.stallMs = s.port.stallMs := by
  have abandoned (u : State) : (abandonTiming .clock u).clock = u.clock
      ∧ (abandonTiming .clock u).resetAsserted = u.resetAsserted
      ∧ (abandonTiming .clock u).port.stall = u.port.stall
      ∧ (abandonTiming .clock u).port.stallMs = u.port.stallMs := by
    unfold abandonTiming
    split <;> simp [enterSearch]
  unfold clockLost
  dsimp only
  split <;> exact abandoned _

/-- Settles O2: with RESET# released the idle tick is the two ticks, each an expiry or a count. -/
theorem idleStepTimesTheTwoIntervals : Obligations.IdleStepTimesTheTwoIntervals := by
  intro s none later lossDue stallDue lossLater stallLater
  have idle : step s = .next (idleTick s) := by
    unfold step
    rw [none]
  have ticks (released : s.resetAsserted = false) : step s = .next (tickStall (tickClock s)) := by
    rw [idle, idleTick, if_neg (by simp [released])]
  have lossTick (due : ¬ lossDue) : tickClock s = lossLater :=
    if_neg (mt s.clockExpires_iff.1 due)
  have stallTick (u : State) (due : u.stallExpires = false) : tickStall u = stallLater u :=
    if_neg (Bool.eq_false_iff.1 due)
  have stallExpiry (u : State) (released : u.resetAsserted = false) (due : u.stallExpires = true) :
      .next (tickStall u) = exec .portStallExpiry u := by
    rw [exec_released _ u released]
    simp [effectOf, expireStall, tickStall, due]
  refine ⟨fun asserted => ?_, fun released noLoss noStall => ?_, fun released noLoss stalls => ?_,
    fun released loses => ?_⟩
  · rw [idle, idleTick, if_pos asserted]
  · rw [ticks released, lossTick noLoss, stallTick lossLater (Bool.eq_false_iff.2 (mt s.stallExpires_iff.1 noStall))]
  · rw [ticks released, lossTick noLoss]
    exact stallExpiry lossLater released (s.stallExpires_iff.2 stalls)
  · obtain ⟨clock, reset, stall, stallMs⟩ := clockLost_timers s
    have due := s.clockExpires_iff.2 loses
    have same : (clockLost s).stallExpires = s.stallExpires := by
      rw [State.stallExpires, stall, stallMs, State.stallExpires]
    have lost : tickClock s = clockLost s := if_pos due
    refine ⟨clockLost s, ?_, clock, stall, fun noStall => ?_, fun stalls => ?_⟩
    · rw [exec_released _ s released]
      simp [effectOf, loseClock, due]
    · rw [ticks released, lost,
        stallTick _ (same.trans (Bool.eq_false_iff.2 (mt s.stallExpires_iff.1 noStall)))]
    · rw [ticks released, lost]
      exact stallExpiry _ (reset.trans released) (same.trans (s.stallExpires_iff.2 stalls))

end Sys2Proof.Machine
end

section
/-! PROOF. The events that blocks hand to the Event Unit (R167, R168), and what a frame start (R31) and an
entry into SEARCH (R36) do. -/

namespace Sys2Proof.Machine

/-! ### Events handed -/

/-- The records of several blocks' events are those of all their events. -/
theorem flatten_eventRecords (ev : EventUnit) (blocks : List (List Event)) :
    (blocks.map (eventRecords ev)).flatten = eventRecords ev blocks.flatten := by
  simp only [eventRecords, List.filter_flatten, List.map_flatten, List.map_map]
  rfl

theorem handEvents_nothing {blocks : List (List Event)} (nothing : blocks.flatten = []) (s : State) :
    handEvents blocks s = s := by
  rw [handEvents, offerBlocks_none _ _ (by rw [flatten_eventRecords, nothing]; rfl), nothing]
  simp [latchedBy]

/-- Events set their latched bits, and their records are offered in an order that keeps each block's own
(R167, 8.10). -/
theorem handEvents_says (blocks : List (List Event)) (s : State) :
    ∃ records n latched, Interleaves (blocks.map (eventRecords s.ev)) records
      ∧ (∀ b, latched.getLsbD b = (s.ev.latched.getLsbD b
          || blocks.flatten.any fun e => decide (e.code.latchedBit.map LatchedBit.index = some b)))
      ∧ handEvents blocks s
        = offerAll records { s with ev := { s.ev with latched := latched }, order := n } := by
  refine ⟨weaveAll s.order (blocks.map (eventRecords s.ev)), _,
    s.ev.latched ||| latchedBy blocks.flatten, offersOfOneHappeningInterleave _ _, fun b => ?_, rfl⟩
  rw [BitVec.getLsbD_or, latchedBy_getLsbD]

/-- A happening's only event, of a frame not in COAST, sets its latched bit and, if its mask bit is set,
offers its record (R167, R168). -/
theorem handEvents_one {blocks : List (List Event)} {e : Event} {bit : LatchedBit} {i : Nat}
    (one : blocks.flatten = [e]) (sets : e.code.latchedBit = some bit)
    (masked : e.code.maskIndex = some i) (clear : e.coast = false) (s : State) :
    ∃ n, handEvents blocks s = offerAll
      (if s.ev.recordMask.getLsbD i then [[0x6004, e.fsn, BitVec.ofNat 16 e.code.code, e.arg]] else [])
      { s with ev := { s.ev with latched := s.ev.latched ||| bit.mask }, order := n } := by
  have mask : s.ev.recordsEvent e.code = s.ev.recordMask.getLsbD i := by
    simp [EventUnit.recordsEvent, masked]
  have latched : latchedBy blocks.flatten = bit.mask := by simp [latchedBy, one, sets]
  have records : weaveAll s.order (blocks.map (eventRecords s.ev))
      = if s.ev.recordMask.getLsbD i then [[0x6004, e.fsn, BitVec.ofNat 16 e.code.code, e.arg]]
        else [] := by
    have perm := weaveAll_perm s.order (blocks.map (eventRecords s.ev))
    rw [flatten_eventRecords, one, eventRecords, List.filter_singleton, mask] at perm
    cases chosen : s.ev.recordMask.getLsbD i with
    | true =>
      rw [chosen] at perm
      have words : e.record = [0x6004, e.fsn, BitVec.ofNat 16 e.code.code, e.arg] := by
        simp [Event.record_words, clear]
      exact (List.perm_singleton.1 perm).trans (by rw [words]; rfl)
    | false =>
      rw [chosen] at perm
      exact perm.eq_nil
  exact ⟨_, by rw [handEvents, offerBlocks, records, latched]⟩

/-- The events of a block offer the four words of each event whose mask bit is set. -/
theorem eventRecords_words (ev : EventUnit) (es : List Event) :
    eventRecords ev es = (es.filter fun e => ev.recordsEvent e.code).map fun e =>
      [0x6004 ||| (if e.coast then 0x1000 else 0), e.fsn, BitVec.ofNat 16 e.code.code, e.arg] := by
  rw [eventRecords, funext Event.record_words]

/-! ### The swap at a happening -/

theorem MapStore.standby_code (m : MapStore) :
    placed m.standby.code 0 = if m.active = .a then 1 else 0 := by
  unfold MapStore.standby
  cases m.active <;> rfl

theorem MapStore.takesAtFrameStart_none {m : MapStore} (idle : m.swap ≠ .pending) (depth : Nat)
    (phase : Option Nat) : m.takesAtFrameStart depth phase = false := by
  simp [takesAtFrameStart, idle]

/-- The SWAP event's only record and latched bit, as a happening that takes the swap hands them (R77). -/
theorem handEvents_swap (m : MapStore) (fsn : Word) (s : State) :
    ∃ n, handEvents [[m.swapEvent fsn false]] s = offerAll
      (if s.ev.recordMask.getLsbD 7 then [[0x6004, fsn, 8, if m.active = .a then 1 else 0]] else [])
      { s with
        ev := { s.ev with latched := s.ev.latched ||| LatchedBit.swapDone.mask }, order := n } := by
  have ⟨n, hand⟩ := handEvents_one (blocks := [[m.swapEvent fsn false]]) (bit := .swapDone) (i := 7)
    rfl rfl rfl rfl s
  refine ⟨n, hand.trans ?_⟩
  rw [MapStore.swapEvent, m.standby_code]
  rfl

/-- A frame start without an event and without a pending swap is the step of the phase and the choice of
the Capture Unit. -/
theorem startFrame_quiet {s : State} (idle : s.map.swap ≠ .pending) (fs : FrameSync) (slip : Int)
    (first : Bool) :
    startFrame fs slip first [] s = { s with
      fs := fs
      sf := s.sf.frameStart s.fmt fs.decodedMark
      cap := s.cap.frameStart
        { fsn := fs.fsn, decoded := fs.decodedMark, coast := fs.coastMark, slip := slip
          first := first } (phaseAtStart fs.decodedMark s) } := by
  rw [startFrame, s.map.takesAtFrameStart_none idle]
  exact handEvents_nothing rfl _

theorem SubframeSync.frameStart_undecoded (f : Format) (sf : SubframeSync) :
    sf.frameStart f false = sf := by simp [frameStart]

/-- The phase steps only in SF_CHECK and SF_LOCK. -/
theorem SubframeSync.frameStart_outside (f : Format) {sf : SubframeSync} (decoded : Bool)
    (outside : sf.state = .off ∨ sf.state = .search) : sf.frameStart f decoded = sf := by
  rcases outside with h | h <;> simp [frameStart, h]

theorem CaptureUnit.frameStart_eq (c : CaptureUnit) (i : FrameInfo) (phase : Option Nat) :
    c.frameStart i phase =
      if i.decoded = false then c
      else if c.every = 0 then { c with countdown := c.countdownAt i }
      else if 1 < c.countdownAt i then { c with countdown := c.countdownAt i - 1 }
      else { c with
        countdown := c.every
        current := some { fsn := i.fsn, coast := i.coast, phase := phase, slip := i.slip
                          buffer := [] } } := by
  unfold frameStart
  cases i.decoded <;> rfl

/-! ### What a frame start and an entry into SEARCH do -/

/-- Settles O14: `startFrame` hands the two blocks' events, and each block's part is its own function. -/
theorem frameStartReachesEveryBlock : Obligations.FrameStartReachesEveryBlock := by
  intro fs slip first events s row offered stepped phase taken countdown swap
  have rowIs : ∀ c, row c = (c.code, c.latchedBit.map LatchedBit.index, c.maskIndex) := fun c => by
    cases c <;> rfl
  have offeredIs : ∀ es, offered es = eventRecords s.ev es := fun es => by
    rw [eventRecords_words]
    simp only [offered, rowIs]
    rfl
  have swapIs : s.map.swapEvents taken fs.fsn fs.coastMark = swap := by
    simp only [MapStore.swapEvents, MapStore.swapEvent, MapStore.standby_code, swap]
  obtain ⟨records, n, latched, order, bits, hand⟩ := handEvents_says [events, swap]
    { s with
      fs := fs
      sf := stepped
      map := s.map.swappedIf taken
      cap := s.cap.frameStart { fsn := fs.fsn, decoded := fs.decodedMark, coast := fs.coastMark
                                slip := slip, first := first } phase }
  refine ⟨records, n, latched, ?_, fun b => ?_, ?_⟩
  · rw [offeredIs, offeredIs]
    exact order
  · rw [bits]
    simp only [rowIs, swap]
    cases taken <;> simp [Bool.or_assoc, EventCode.latchedBit, LatchedBit.index, eq_comm]
  · rw [CaptureUnit.frameStart_eq] at hand
    refine Eq.trans ?_ hand
    rw [← CaptureUnit.frameStart_eq, ← swapIs]
    rfl

/-- Settles O15: `enterSearch` hands the three blocks' events. -/
theorem timingLossReachesEveryBlock : Obligations.TimingLossReachesEveryBlock := by
  intro events s row offered sfLost taken
  have rowIs : ∀ c, row c = (c.code, c.latchedBit.map LatchedBit.index, c.maskIndex) := fun c => by
    cases c <;> rfl
  have offeredIs : ∀ es, offered es = eventRecords s.ev es := fun es => by
    rw [eventRecords_words]
    simp only [offered, rowIs]
    rfl
  have subIs : s.sf.timingLostEvents s.fmt s.fs.fsn
      = if sfLost then [{ code := .sfLost, arg := 0, fsn := s.fs.fsn + 1, coast := false }] else [] := by
    simp [SubframeSync.timingLostEvents, sfLost]
  have swapIs : s.map.swapEvents taken s.fs.fsn false
      = if taken then [{ code := .swap, arg := if s.map.active = .a then 1 else 0, fsn := s.fs.fsn
                         coast := false }] else [] := by
    simp only [MapStore.swapEvents, MapStore.swapEvent, MapStore.standby_code]
  obtain ⟨records, n, latched, order, bits, hand⟩ := handEvents_says
    [events, s.sf.timingLostEvents s.fmt s.fs.fsn, s.map.swapEvents taken s.fs.fsn false]
    { s with fs := s.fs.toSearch, sf := s.sf.timingLost s.fmt, map := s.map.swappedIf taken }
  refine ⟨records, n, latched, ?_, fun b => ?_, hand⟩
  · rw [offeredIs, offeredIs, offeredIs, ← subIs, ← swapIs]
    exact order
  · rw [bits, subIs, swapIs]
    simp only [rowIs]
    cases sfLost <;> cases taken <;>
      simp [Bool.or_assoc, EventCode.latchedBit, LatchedBit.index, eq_comm]

end Sys2Proof.Machine
end

section
/-! PROOF. One bit of the telemetry stream (R7, R8, R18 to R32): the search, the sync checks, the slip
window, and the words that bits complete. -/

namespace Sys2Proof.Machine

/-! ### Correlation (R6, R18, R19) -/

theorem card_filter_range (n : Nat) (p : Nat → Prop) [DecidablePred p] :
    ((Finset.range n).filter p).card = (List.range n).countP fun i => decide (p i) := by
  rw [List.countP_eq_length_filter]
  rfl

theorem FrameSync.distance_le (fs : FrameSync) (f : Format) (back : Nat) :
    fs.distance f back ≤ f.comparedBits :=
  List.countP_mono_left fun _ _ h => (Bool.and_eq_true_iff.1 h).1

theorem FrameSync.push_newest (fs : FrameSync) (bit : Bool) :
    (fs.push bit).history.getLsbD 0 = bit := by
  cases bit <;> simp [push]

theorem FrameSync.push_older (fs : FrameSync) (bit : Bool) {i : Nat} (hi : i < 51) :
    (fs.push bit).history.getLsbD (i + 1) = fs.history.getLsbD i := by
  have kept : i + 1 < 52 := by omega
  cases bit <;> simp [push, kept, BitVec.getLsbD_eq_getElem (Nat.lt_succ_of_lt hi)]

/-- Settles O8: the distance counts, and a push shifts. -/
theorem correlationComparesTheHistory : Obligations.CorrelationComparesTheHistory := by
  intro fs f back bit
  refine ⟨?_, fs.distance_le f back, fs.push_newest bit, fun i hi => fs.push_older bit hi, rfl⟩
  rw [card_filter_range, FrameSync.distance]
  refine List.countP_congr fun i _ => ?_
  simp [FrameSync.bitBefore]

/-! ### The selected edge (R7, R8) -/

/-- A selected edge restarts the Clock Monitor and hands its bit on. -/
theorem exec_bit {s : State} (released : s.resetAsserted = false) (level : Bool) :
    exec (.bitArrival s.fmt.clockEdge level) s = .next (acceptBit level s) := by
  rw [exec_released _ s released]
  simp [effectOf]

/-- The state in which a bit inside a frame, or at its end, finds its place: the bit is in the history and
the frame offset is one on (R18, R21). -/
def State.moved (level : Bool) (s : State) : State :=
  { s.received level with fs := { (s.received level).fs with offset := s.fs.offset + 1 } }

theorem acceptBit_off {s : State} (off : s.fs.sync = .off) (level : Bool) :
    acceptBit level s = { s with clock := .edge s.clockExpires s.fmt.clklossUs } :=
  syncBit_off (s := { s with clock := .edge s.clockExpires s.fmt.clklossUs }) off _

theorem acceptBit_search {s : State} (search : s.fs.sync = .search) (level : Bool) :
    acceptBit level s = searchBit (s.received level) :=
  syncBit_search (s := { s with clock := .edge s.clockExpires s.fmt.clklossUs }) search _

theorem acceptBit_check_inside {s : State} (check : s.fs.sync = .check)
    (inside : s.fs.offset + 1 ≠ s.fmt.syncEnd) (level : Bool) :
    acceptBit level s = deliverWord (s.moved level) :=
  syncBit_check_inside (s := { s with clock := .edge s.clockExpires s.fmt.clklossUs }) check inside _

theorem acceptBit_check_end {s : State} (check : s.fs.sync = .check)
    (atEnd : s.fs.offset + 1 = s.fmt.syncEnd) (level : Bool) :
    acceptBit level s = checkInCheck (s.moved level) :=
  syncBit_check_end (s := { s with clock := .edge s.clockExpires s.fmt.clklossUs }) check atEnd _

theorem acceptBit_lock_inside {s : State} (inLock : s.fs.sync.inLock = true)
    (inside : s.fs.offset + 1 ≠ s.fmt.syncEnd + s.fmt.slipWin) (level : Bool) :
    acceptBit level s = deliverWord (s.moved level) :=
  syncBit_lock_inside (s := { s with clock := .edge s.clockExpires s.fmt.clklossUs }) inLock inside _

theorem acceptBit_lock_end {s : State} (inLock : s.fs.sync.inLock = true)
    (atEnd : s.fs.offset + 1 = s.fmt.syncEnd + s.fmt.slipWin) (level : Bool) :
    acceptBit level s = checkInLock (s.moved level) :=
  syncBit_lock_end (s := { s with clock := .edge s.clockExpires s.fmt.clklossUs }) inLock atEnd _

/-- Settles O6: the Frame Synchronizer takes no bit in OFF. -/
theorem bitNotTakenReachesOnlyTheClockMonitor :
    Obligations.BitNotTakenReachesOnlyTheClockMonitor := by
  intro s edge level released
  refine ⟨fun other => ?_, ?_⟩
  · rw [exec_released _ s released]
    simp [effectOf, other]
  · rintro rfl off
    rw [exec_bit released, acceptBit_off off]
    rfl

/-! ### SEARCH and CHECK (R20, R22) -/

/-- Settles O7: the frame start of the frame found is not decoded and takes no swap. -/
theorem searchBitFindsTheSyncOrGoesOn : Obligations.SearchBitFindsTheSyncOrGoesOn := by
  intro s level released search r
  have bit := exec_bit released level
  rw [acceptBit_search search] at bit
  refine ⟨fun fails => ?_, fun filled near idle => ?_⟩
  · rw [bit, searchBit, if_neg]
    rintro ⟨filled, near⟩
    rcases fails with short | far
    · exact absurd filled (Nat.not_le.2 short)
    · exact absurd near (Nat.not_le.2 far)
  · rw [bit, searchBit, if_pos ⟨filled, near⟩, syncFound, startFrame_quiet (s := r) idle,
      SubframeSync.frameStart_undecoded]
    rfl

/-- With neither a SF_LOCK to lose nor a swap to take, an entry into SEARCH without an event of its own
clears the counts and the marks and gives up the phase. -/
theorem enterSearch_quiet {s : State} (idle : s.map.swap ≠ .pending) (unlocked : s.sf.state ≠ .lock) :
    enterSearch [] s = { s with fs := s.fs.toSearch, sf := s.sf.timingLost s.fmt } := by
  have noSwap : s.map.isPending = false := decide_eq_false idle
  have noLoss : s.sf.timingLostEvents s.fmt s.fs.fsn = [] := if_neg fun h => unlocked h.2
  rw [enterSearch, noSwap, noLoss]
  exact handEvents_nothing rfl _

/-- Outside SF_CHECK and SF_LOCK the phase at a frame start is the phase known before it. -/
theorem phaseAtStart_outside {s : State} (outside : s.sf.state = .off ∨ s.sf.state = .search)
    (decoded : Bool) : phaseAtStart decoded s = s.knownPhase := by
  rw [phaseAtStart, SubframeSync.frameStart_outside _ _ outside]

/-- The first decoded frame after CHECK: the Capture Unit starts from a countdown of 1 (R123), and the LOCK
event is the only one. -/
theorem startFrame_lockGained {s : State} (idle : s.map.swap ≠ .pending)
    (outside : s.sf.state = .off ∨ s.sf.state = .search) {fs : FrameSync}
    (decoded : fs.decodedMark = true) (clear : fs.coastMark = false) :
    ∃ n, startFrame fs 0 true [{ code := .lock, arg := 0, fsn := fs.fsn, coast := false }] s
      = offerAll (if s.ev.recordMask.getLsbD 0 then [[0x6004, fs.fsn, 1, 0]] else []) { s with
          fs := fs
          cap := if s.cap.every = 0 then { s.cap with countdown := 1 }
            else { s.cap with
              countdown := s.cap.every
              current := some { fsn := fs.fsn, coast := false, phase := s.knownPhase, slip := 0
                                buffer := [] } }
          ev := { s.ev with latched := s.ev.latched ||| LatchedBit.lockGained.mask }
          order := n } := by
  have ⟨n, hand⟩ := handEvents_one (bit := .lockGained) (i := 0)
    (blocks := [[{ code := .lock, arg := 0, fsn := fs.fsn, coast := false }], []]) rfl rfl rfl rfl
    { s with
      fs := fs
      cap := if s.cap.every = 0 then { s.cap with countdown := 1 }
        else { s.cap with
          countdown := s.cap.every
          current := some { fsn := fs.fsn, coast := false, phase := s.knownPhase, slip := 0
                            buffer := [] } } }
  refine ⟨n, Eq.trans ?_ hand⟩
  rw [startFrame, s.map.takesAtFrameStart_none idle, phaseAtStart_outside outside,
    SubframeSync.frameStart_outside _ _ outside, CaptureUnit.frameStart_eq, decoded, clear]
  rfl

theorem checkInCheck_below {s : State} (near : s.fs.distance s.fmt 0 ≤ s.fmt.tolCheck)
    (below : s.fs.goodCount + 1 < s.fmt.checkCount) :
    checkInCheck s = startFrame { s.fs with
      goodCount := s.fs.goodCount + 1, offset := s.fmt.syncLen - 1, fsn := s.fs.fsn + 1
      decodedMark := false, coastMark := false } 0 false [] s := by
  rw [checkInCheck, if_pos near, if_pos below]

theorem checkInCheck_reached {s : State} (near : s.fs.distance s.fmt 0 ≤ s.fmt.tolCheck)
    (reached : s.fmt.checkCount ≤ s.fs.goodCount + 1) :
    checkInCheck s = startFrame { s.fs with
      sync := .lock, goodCount := 0, missCount := 0, offset := s.fmt.syncLen - 1
      fsn := s.fs.fsn + 1, decodedMark := true, coastMark := false } 0 true
      [{ code := .lock, arg := 0, fsn := s.fs.fsn + 1, coast := false }] s := by
  rw [checkInCheck, if_pos near, if_neg (Nat.not_lt.2 reached)]

theorem checkInCheck_far {s : State} (far : s.fmt.tolCheck < s.fs.distance s.fmt 0) :
    checkInCheck s = enterSearch [] s := by
  rw [checkInCheck, if_neg (Nat.not_le.2 far)]

/-- Settles O9: the three outcomes of `checkInCheck`. -/
theorem syncCheckInCheck : Obligations.SyncCheckInCheck := by
  intro s level released check atEnd idle outside r
  have bit := exec_bit released level
  rw [acceptBit_check_end check atEnd] at bit
  refine ⟨fun near below => ?_, fun near reached => ?_, fun far => ⟨s.fs.offset + 1, ?_⟩⟩
  · rw [bit, checkInCheck_below (s := s.moved level) near below,
      startFrame_quiet (s := s.moved level) idle, SubframeSync.frameStart_undecoded]
    rfl
  · rw [bit, checkInCheck_reached (s := s.moved level) near reached]
    obtain ⟨n, start⟩ := startFrame_lockGained (s := r) idle outside (fs := { r.fs with
      sync := .lock, goodCount := 0, missCount := 0, offset := s.fmt.syncLen - 1
      fsn := s.fs.fsn + 1, decodedMark := true, coastMark := false }) rfl rfl
    exact ⟨n, congrArg _ start⟩
  · have unlocked : s.sf.state ≠ .lock := by rcases outside with h | h <;> simp [h]
    rw [bit, checkInCheck_far (s := s.moved level) far,
      enterSearch_quiet (s := s.moved level) idle unlocked]
    rfl

/-! ### The slip window (R23, R24) -/

/-- In a list that a rank puts in order, the search finds the element of least rank that passes. -/
theorem find?_eq_some_iff_least {α : Type} {p : α → Bool} {rank : α → Nat} {l : List α}
    (ordered : l.Pairwise fun x y => rank x < rank y) (a : α) :
    l.find? p = some a ↔ a ∈ l ∧ p a = true ∧ ∀ b ∈ l, rank b < rank a → p b = false := by
  induction l with
  | nil => simp
  | cons x xs ih =>
    obtain ⟨first, ordered⟩ := List.pairwise_cons.1 ordered
    cases passes : p x with
    | false =>
      rw [List.find?_cons_of_neg (by simp [passes]), ih ordered]
      refine ⟨fun ⟨mem, pa, least⟩ => ⟨.tail x mem, pa, fun b hb lt => ?_⟩,
        fun ⟨mem, pa, least⟩ => ⟨?_, pa, fun b hb => least b (.tail x hb)⟩⟩
      · rcases List.mem_cons.1 hb with rfl | hb
        · exact passes
        · exact least b hb lt
      · rcases List.mem_cons.1 mem with rfl | mem
        · rw [passes] at pa
          cases pa
        · exact mem
    | true =>
      rw [List.find?_cons_of_pos passes]
      refine ⟨?_, fun ⟨mem, pa, least⟩ => ?_⟩
      · rintro ⟨⟩
        refine ⟨.head xs, passes, fun b hb lt => ?_⟩
        rcases List.mem_cons.1 hb with rfl | hb
        · exact absurd lt (lt_irrefl _)
        · exact absurd (first b hb) lt.asymm
      · rcases List.mem_cons.1 mem with rfl | mem
        · rfl
        · have fails := least x (.head xs) (first a mem)
          rw [passes] at fails
          cases fails

/-- The turn at which an offset of the slip window is tried. -/
def slipTurn (o : Int) : Nat := if o < 0 then 2 * o.natAbs - 1 else 2 * o.natAbs

theorem slipOrder_ordered (slipWin : Nat) :
    (slipOrder slipWin).Pairwise fun o q => slipTurn o < slipTurn q :=
  List.Pairwise.filter _ (by decide)

theorem mem_slipOrder {slipWin : Nat} (small : slipWin ≤ 2) (o : Int) :
    o ∈ slipOrder slipWin ↔ o.natAbs ≤ slipWin := by
  simp only [slipOrder, List.mem_filter, List.mem_cons, List.not_mem_nil, or_false, decide_eq_true_eq]
  omega

/-- Settles O10: the offsets stand in the order of their turns. -/
theorem slipCandidatesTriedInOrder : Obligations.SlipCandidatesTriedInOrder := by
  intro s small d turn
  refine ⟨fun o => ?_, ?_⟩
  · rw [State.takenOffset, find?_eq_some_iff_least (slipOrder_ordered _), mem_slipOrder small]
    simp only [mem_slipOrder small, decide_eq_true_eq, decide_eq_false_iff_not, Nat.not_le]
    rfl
  · rw [State.takenOffset, List.find?_eq_none]
    simp only [mem_slipOrder small, decide_eq_true_eq, Nat.not_le]
    rfl

/-! ### Words delivered (R32) -/

theorem deliverWord_none {s : State} (inRange : s.fmt.InRange)
    (none : ∀ k, 1 ≤ k → k ≤ s.fmt.wpf → s.fs.offset + 1 ≠ s.fmt.syncLen + k * s.fmt.wlen) :
    deliverWord s = s := by
  unfold deliverWord
  split
  · rename_i k completed
    obtain ⟨first, last, at'⟩ := (s.fmt.completedAt_iff inRange s.fs.offset k).1 completed
    exact absurd at' (none k first last)
  · rfl

theorem deliverWord_undecoded {s : State} (undecoded : s.fs.decodedMark = false) :
    deliverWord s = s := by
  unfold deliverWord
  split
  · rw [if_neg (by simp [undecoded])]
  · rfl

theorem deliverWord_completed {s : State} (inRange : s.fmt.InRange) {k : Nat} (first : 1 ≤ k)
    (last : k ≤ s.fmt.wpf) (completes : s.fs.offset + 1 = s.fmt.syncLen + k * s.fmt.wlen)
    (decoded : s.fs.decodedMark = true) : deliverWord s = wordComplete k s := by
  rw [deliverWord, (s.fmt.completedAt_iff inRange s.fs.offset k).2 ⟨first, last, completes⟩]
  exact if_pos decoded

/-- Settles O18: inside a frame a bit goes to `deliverWord`. -/
theorem frameBitDeliversCompletedWords : Obligations.FrameBitDeliversCompletedWords := by
  intro s level released inRange inside r t
  have bit : exec (.bitArrival s.fmt.clockEdge level) s = .next (deliverWord t) := by
    rw [exec_bit released]
    rcases inside with ⟨check, inside⟩ | ⟨lock, inside⟩
    · exact congrArg _ (acceptBit_check_inside check inside level)
    · exact congrArg _ (acceptBit_lock_inside (s.fs.sync.inLock_iff.2 lock) inside level)
  have marker : 8 ≤ s.fmt.syncLen := inRange.1.1
  refine ⟨fun k first last decoded completes => ?_, fun none => ?_⟩
  · have completed : t.fs.offset + 1 = s.fmt.syncLen + k * s.fmt.wlen := by
      show s.fs.offset + 1 + 1 = _
      omega
    rw [bit, deliverWord_completed (s := t) inRange first last completed decoded]
  · rw [bit]
    rcases none with undecoded | none
    · rw [deliverWord_undecoded (s := t) undecoded]
    · rw [deliverWord_none (s := t) inRange]
      intro k first last (completed : s.fs.offset + 1 + 1 = s.fmt.syncLen + k * s.fmt.wlen)
      exact none k first last (by omega)

/-! ### The sync check in LOCK and COAST (R24 to R29) -/

/-- The bits of the new frame already received when a check passes at offset o: 4 at most, and word 1 has
4 at least (R29). -/
theorem deliverWord_syncPass {s : State} (inRange : s.fmt.InRange) {o : Int}
    (within : o.natAbs ≤ s.fmt.slipWin) :
    deliverWord (syncPass o s)
      = if s.fmt.wlen = 4 ∧ (s.fmt.slipWin : Int) - o = 4 then wordComplete 1 (syncPass o s)
        else syncPass o s := by
  have ⟨⟨marker, _⟩, ⟨wlen, _⟩, ⟨wpf, _⟩, rest⟩ := inRange
  have slipWin : s.fmt.slipWin ≤ 2 := by
    obtain ⟨-, -, -, -, -, -, -, -, -, -, small, -⟩ := rest
    exact small
  have fmt : (syncPass o s).fmt = s.fmt := by simp [syncPass]
  have fs : (syncPass o s).fs.offset = ((s.fmt.syncLen : Int) - 1 + s.fmt.slipWin - o).toNat := by
    simp [syncPass]
  have decoded : (syncPass o s).fs.decodedMark = true := by simp [syncPass]
  split
  · rename_i completes
    obtain ⟨four, received⟩ := completes
    refine deliverWord_completed (fmt ▸ inRange) le_rfl ?_ ?_ decoded
    · rw [fmt]; omega
    · rw [fmt, fs]; omega
  · rename_i fewer
    refine deliverWord_none (fmt ▸ inRange) fun k first last completed => fewer ?_
    rw [fmt, fs] at completed
    have : k * 4 ≤ k * s.fmt.wlen := Nat.mul_le_mul_left k wlen
    have one : k = 1 := by omega
    subst one
    omega

theorem checkInLock_pass {s : State} (inRange : s.fmt.InRange) {o : Int}
    (takes : s.takenOffset = some o) :
    checkInLock s
      = if s.fmt.wlen = 4 ∧ (s.fmt.slipWin : Int) - o = 4 then wordComplete 1 (syncPass o s)
        else syncPass o s := by
  rw [checkInLock, takes]
  exact deliverWord_syncPass inRange (State.takenOffset_within takes)

/-- A frame start in COAST is on the expected timing: SLIP_WIN bits of the frame are received, too few for
a word (R27). -/
theorem checkInLock_coast {s : State} (inRange : s.fmt.InRange) (missed : s.takenOffset = none)
    (below : s.fs.missCount + 1 < s.fmt.lockMiss) : checkInLock s = syncMiss s := by
  have ⟨⟨marker, _⟩, ⟨wlen, _⟩, _, rest⟩ := inRange
  have slipWin : s.fmt.slipWin ≤ 2 := by
    obtain ⟨-, -, -, -, -, -, -, -, -, -, small, -⟩ := rest
    exact small
  have fmt : (syncMiss s).fmt = s.fmt := by simp [syncMiss, below]
  have offset : (syncMiss s).fs.offset = s.fmt.syncLen - 1 + s.fmt.slipWin := by
    simp [syncMiss, below]
  rw [checkInLock, missed]
  dsimp only
  rw [if_pos below]
  refine deliverWord_none (fmt ▸ inRange) fun k first last completed => ?_
  rw [fmt, offset] at completed
  have : 1 * s.fmt.wlen ≤ k * s.fmt.wlen := Nat.mul_le_mul_right _ first
  omega

/-- Settles O12: `checkInLock` takes the candidate, and the frame start stands `o` bits earlier. -/
theorem passMovesTheFrameStart : Obligations.PassMovesTheFrameStart := by
  intro s level o released inLock inRange atEnd takes r t
  have pass : syncPass o (s.moved level) = t := by
    have slips : stopIncIf (decide (o ≠ 0)) s.fs.slips
        = if o = 0 then s.fs.slips else stopInc s.fs.slips := by
      by_cases exact' : o = 0 <;> simp [stopIncIf, exact']
    simp only [t, ← slips, ← add_sub_assoc]
    rfl
  rw [exec_bit released, acceptBit_lock_end (s.fs.sync.inLock_iff.2 inLock) atEnd,
    checkInLock_pass (s := s.moved level) inRange takes, pass]
  rfl

/-- Settles O11: offset 0 is tried first, and with it no word is complete and no event raised. -/
theorem exactPassInLock : Obligations.ExactPassInLock := by
  intro s level released lock inRange atEnd r near
  have takes : r.takenOffset = some 0 := by
    rw [State.takenOffset, slipOrder, List.filter_cons_of_pos (by simp)]
    exact List.find?_cons_of_pos (decide_eq_true near)
  have few : s.fmt.slipWin ≤ 2 := by
    obtain ⟨-, -, -, -, -, -, -, -, -, -, -, -, -, small, -⟩ := inRange
    exact small
  have pass := passMovesTheFrameStart s level 0 released (.inl lock) inRange atEnd takes
  have offset : ((s.fmt.syncLen : Int) - 1 + ((s.fmt.slipWin : Int) - 0)).toNat
      = s.fmt.syncLen - 1 + s.fmt.slipWin := by
    have := inRange.1.1
    omega
  dsimp only at pass
  rw [if_neg (by omega), offset, if_pos rfl, lock, if_neg nofun] at pass
  exact pass

/-- Settles O13: a miss below LOCK_MISS is `checkInLock_coast`, one that reaches it an entry into SEARCH. -/
theorem missCoastsOrLosesLock : Obligations.MissCoastsOrLosesLock := by
  intro s level released inLock inRange atEnd missed r
  have bit := exec_bit released level
  rw [acceptBit_lock_end (s.fs.sync.inLock_iff.2 inLock) atEnd] at bit
  refine ⟨fun below => ?_, fun reached => ⟨s.fs.offset + 1, ?_⟩⟩
  · have arg : placed (s.fs.missCount + 1) 0 = BitVec.ofNat 16 (s.fs.missCount + 1) := by
      rw [placed_eq, pow_zero, mul_one]
    rw [bit, checkInLock_coast (s := s.moved level) inRange missed below, ← arg]
    exact congrArg _ (if_pos below)
  · have lost : syncMiss (s.moved level) = _ := if_neg (Nat.not_lt.2 reached)
    rw [bit, checkInLock, show (s.moved level).takenOffset = none from missed]
    exact congrArg _ ((if_neg (Nat.not_lt.2 reached)).trans lost)

/-! ### SFID readings (Table 3-3) -/

theorem SubframeSync.examine_some {f : Format} {v p : Nat} (maps : f.phaseOfSfid v = some p) :
    SubframeSync.examine f v = { state := .check, held := some p, goodCount := 0, missCount := 0 } := by
  rw [examine, maps]

theorem SubframeSync.examine_none {f : Format} {v : Nat} (unmapped : f.phaseOfSfid v = none) :
    SubframeSync.examine f v = { state := .search, held := none, goodCount := 0, missCount := 0 } := by
  rw [examine, unmapped]

theorem SubframeSync.read_search {sf : SubframeSync} (search : sf.state = .search) (f : Format)
    (v : Nat) : sf.read f v = (SubframeSync.examine f v, .noEvent) := by
  rw [read, search]

theorem SubframeSync.read_check {sf : SubframeSync} (check : sf.state = .check) (f : Format)
    (v : Nat) : sf.read f v = sf.readCheck f v := by
  rw [read, check]

theorem SubframeSync.read_lock {sf : SubframeSync} (lock : sf.state = .lock) (f : Format)
    (v : Nat) : sf.read f v = sf.readLock f v := by
  rw [read, lock]

/-- Settles O21: the rows of Table 3-3 are the branches of `readCheck` and `readLock`. -/
theorem sfidReadingOutcomes : Obligations.SfidReadingOutcomes := by
  intro f v sf predicted taken search
  refine ⟨fun state => ?_, fun state => ?_, fun state => ?_⟩
  · rw [SubframeSync.read_search state]
    exact ⟨fun p maps => by rw [SubframeSync.examine_some maps],
      fun unmapped => by rw [SubframeSync.examine_none unmapped]⟩
  · rw [SubframeSync.read_check state]
    refine ⟨fun p held agrees => ⟨fun below => ?_, fun reached => ?_⟩,
      fun differs => ⟨fun p maps => ?_, fun unmapped => ?_⟩⟩
    · rw [SubframeSync.readCheck, if_pos agrees, if_pos below]
    · rw [SubframeSync.readCheck, if_pos agrees, if_neg (Nat.not_lt.2 reached), held]
      rfl
    · rw [SubframeSync.readCheck, if_neg differs, SubframeSync.examine_some maps]
    · rw [SubframeSync.readCheck, if_neg differs, SubframeSync.examine_none unmapped]
  · rw [SubframeSync.read_lock state]
    refine ⟨fun agrees => ?_, fun differs => ⟨fun below => ?_, fun reached => ?_⟩⟩
    · rw [SubframeSync.readLock, if_pos agrees]
    · rw [SubframeSync.readLock, if_neg differs, if_pos below]
    · rw [SubframeSync.readLock, if_neg differs, if_neg (Nat.not_lt.2 reached)]

end Sys2Proof.Machine
end

section
/-! PROOF. Frame timing given up by RESYNC and clock losses (R9, R37, R38), the interruption of a frame
(R33, R110, R128), and the word-complete happening (R32). -/

namespace Sys2Proof.Machine

/-! ### RESYNC and CLOCK_LOSS -/

theorem abandonTiming_unframed {s : State} (reason : LostReason)
    (unframed : s.fs.sync = .off ∨ s.fs.sync = .search) : abandonTiming reason s = s := by
  rcases unframed with h | h <;> rw [abandonTiming, h]

theorem abandonTiming_check {s : State} (reason : LostReason) (check : s.fs.sync = .check) :
    abandonTiming reason s = enterSearch [] s := by
  rw [abandonTiming, check]

theorem abandonTiming_lock {s : State} (reason : LostReason) (inLock : s.fs.sync.inLock = true) :
    abandonTiming reason s = enterSearch [lostEvent s.fs.fsn reason] (interruptFrame s) := by
  rcases s.fs.sync.inLock_iff.1 inLock with h | h <;> rw [abandonTiming, h]

/-- The machine without a clock: CLOCK_PRESENT clear, the timer stopped, CLOCK_LOSS set (R9). -/
def State.unclocked (s : State) : State :=
  { s with clock := { present := false, timer := .stopped }, ev := s.ev.latch .clockLoss }

theorem clockLost_off {s : State} (off : s.fs.sync = .off) : clockLost s = s.unclocked := by
  rw [clockLost, if_pos off]
  exact abandonTiming_unframed (s := s.unclocked) _ (.inl off)

theorem clockLost_running {s : State} (on : s.fs.sync ≠ .off) :
    clockLost s = { abandonTiming .clock s.unclocked with
      fs := (abandonTiming .clock s.unclocked).fs.emptyHistory } := by
  rw [clockLost, if_neg on]
  rfl

/-- After an edge that overtook nothing, or gave no reading, CLOCK_LOSS finds the timer restarted (R10). -/
theorem loseClock_acceptBit {s : State} (level : Bool)
    (quiet : s.clockExpires = false ∨ (acceptBit level s).readingTaken = false) :
    loseClock (acceptBit level s) = acceptBit level s := by
  have restarted : (acceptBit level s).clockExpires = false := by
    rw [State.clockExpires, acceptBit_clock, acceptBit_fmt]
    exact ClockMonitor.edge_expires _ _
  have alone : (acceptBit level s).lossFollowsReading = false := by
    rw [State.lossFollowsReading, acceptBit_clock, ClockMonitor.edge_overtaken]
    exact Bool.and_eq_false_iff.2 quiet
  rw [loseClock, restarted, alone]
  rfl

/-- A reading is given by the last bit of the word at SFID_POS (R1, R43). -/
theorem State.readingTaken_iff_offset {s : State} (inRange : s.fmt.InRange) :
    s.readingTaken = true ↔ s.fs.decodedMark = true ∧ 1 < s.fmt.depth ∧ s.fmt.sfidPos ≤ s.fmt.wpf
      ∧ s.fs.offset + 1 = s.fmt.syncLen + s.fmt.sfidPos * s.fmt.wlen := by
  have first : 1 ≤ s.fmt.sfidPos := by
    obtain ⟨-, -, -, -, ⟨first, -⟩, -⟩ := inRange
    exact first
  rw [State.readingTaken_iff, Format.completedAt_iff inRange]
  simp only [first, true_and]

/-- Settles O16: RESYNC and the clock-loss happening abandon the timing by sync state, and CLOCK_LOSS is the
happening when the timer is due or a reading overtook it. -/
theorem resyncAndClockLossBySyncState : Obligations.ResyncAndClockLossBySyncState := by
  intro s released lost answer unclocked emptied lossOf due gaveReading
  have resync : exec .resync s = .next (if decide (s.run = .idle) then answer s .refusedState
      else answer (abandonTiming .resync s) .accepted) := by
    rw [exec_released _ s released, effectOf, resyncCmd, answered_refuseIf]
  have running (h : s.run = .run) : exec .resync s
      = .next (answer (abandonTiming .resync s) .accepted) := by
    rw [resync, if_neg (by simp [h])]
  have loses (u : State) : lossOf u (clockLost u) := by
    refine ⟨clockLost_off, fun search => ?_, fun check => ?_, fun inLock => ?_⟩
    · rw [clockLost_running (by simp [search]),
        abandonTiming_unframed (s := u.unclocked) _ (.inr search)]
      rfl
    · rw [clockLost_running (by simp [check]), abandonTiming_check (s := u.unclocked) _ check]
      rfl
    · have on : u.fs.sync ≠ .off := by
        rintro off
        rw [off] at inLock
        exact nomatch inLock
      rw [clockLost_running on, abandonTiming_lock (s := u.unclocked) _ inLock]
      rfl
  have bitReleased (level : Bool) : (acceptBit level s).resetAsserted = false := by
    simpa using released
  have bitInRange (level : Bool) (h : s.fmt.InRange) : (acceptBit level s).fmt.InRange := by
    simpa using h
  have dueIff : s.clockExpires = true ↔ due := s.clockExpires_iff
  refine ⟨fun idle => ?_, fun run => ⟨fun unframed => ?_, fun check => ?_, fun inLock => ?_⟩,
    fun isDue => ⟨clockLost s, ?_, loses s⟩, fun notDue alone => ?_,
    fun inRange level => ⟨acceptBit level s, exec_bit released level, ?_, fun quiet => ?_,
      fun isDue gave => ⟨clockLost (acceptBit level s), ?_, loses _⟩⟩⟩
  · rw [resync, if_pos (by simp [idle])]
  · rw [running run, abandonTiming_unframed _ unframed]
  · rw [running run, abandonTiming_check _ check]
  · rw [running run, abandonTiming_lock _ inLock]
    rfl
  · rw [exec_released _ s released, effectOf, loseClock, dueIff.2 isDue]
    rfl
  · have noLoss : s.lossFollowsReading = false := by rw [State.lossFollowsReading, alone]; rfl
    rw [exec_released _ s released, effectOf, loseClock,
      Bool.eq_false_iff.2 (mt dueIff.1 notDue), noLoss]
    rfl
  · rw [acceptBit_clock]
    exact dueIff
  · rw [exec_released _ _ (bitReleased level)]
    refine congrArg _ (loseClock_acceptBit level (quiet.imp ?_ ?_))
    · exact fun notDue => Bool.eq_false_iff.2 (mt dueIff.1 notDue)
    · exact fun noReading => Bool.eq_false_iff.2 (mt (State.readingTaken_iff_offset (bitInRange level inRange)).1 noReading)
  · have follows : (acceptBit level s).lossFollowsReading = true := by
      rw [State.lossFollowsReading, acceptBit_clock]
      exact Bool.and_eq_true_iff.2 ⟨dueIff.2 isDue,
        (State.readingTaken_iff_offset (bitInRange level inRange)).2 gave⟩
    rw [exec_released _ _ (bitReleased level), effectOf, loseClock, follows, Bool.or_true]
    rfl

/-! ### Held parts counted (R110) -/

theorem Memory.read_of_mem {α : Type} {d : α} {m : Memory α} (rising : m.Pairwise fun p q => p.1 < q.1)
    {c : Nat} {v : α} (listed : (c, v) ∈ m) : Memory.read d m c = v := by
  induction m with
  | nil => exact nomatch listed
  | cons p rest ih =>
    obtain ⟨first, rising⟩ := List.pairwise_cons.1 rising
    rcases List.mem_cons.1 listed with rfl | listed
    · exact if_pos rfl
    · exact (if_neg (first _ listed).ne).trans (ih rising listed)

/-- What a canonical memory lists with a property that an unlisted index does not have is what its indices
read with it. -/
theorem Memory.countP_read {α : Type} {d : α} {size : Nat} {m : Memory α} (canonical : Memory.Wf d size m)
    {p : α → Bool} (unlisted : p d = false) :
    (List.range size).countP (fun c => p (Memory.read d m c)) = m.countP fun q => p q.2 := by
  obtain ⟨rising, bounded⟩ := canonical
  have nodup : ((m.filter fun q => p q.2).map Prod.fst).Nodup :=
    ((rising.filter _).map Prod.fst fun _ _ lt => lt).imp ne_of_lt
  have members (c : Nat) : c ∈ (List.range size).filter (fun c => p (Memory.read d m c))
      ↔ c ∈ (m.filter fun q => p q.2).map Prod.fst := by
    simp only [List.mem_filter, List.mem_range, List.mem_map, Prod.exists, exists_and_right,
      exists_eq_right]
    constructor
    · rintro ⟨-, has⟩
      rcases Memory.read_eq_or_mem d m c with eq | listed
      · rw [eq, unlisted] at has
        cases has
      · exact ⟨_, listed, has⟩
    · rintro ⟨v, listed, has⟩
      rw [Memory.read_of_mem rising listed]
      exact ⟨(bounded _ listed).1, has⟩
  have perm := (List.perm_ext_iff_of_nodup (List.nodup_range.filter _) nodup).2 members
  rw [List.countP_eq_length_filter, List.countP_eq_length_filter, perm.length_eq, List.length_map]

theorem ChannelTable.heldCount_eq {t : ChannelTable}
    (canonical : Memory.Wf ({} : ChannelEntry) Config.channels t.entries) :
    t.heldCount = (List.range 256).countP fun c => (t.entry c).held.isSome :=
  (Memory.countP_read (p := fun e : ChannelEntry => e.held.isSome) canonical rfl).symm

/-- Settles O17: the discard empties every entry's hold, and counts what the memory lists. -/
theorem interruptionDropsHeldPartsAndCapture : Obligations.InterruptionDropsHeldPartsAndCapture := by
  intro s canonical held t
  obtain ⟨-, -, -, entries⟩ := canonical
  have count : s.chan.heldCount = held := ChannelTable.heldCount_eq entries
  refine ⟨fun c => Memory.read_mapAll ({} : ChannelEntry) _ rfl _ entries.1 c, rfl, rfl, ?_⟩
  have abandon : s.cap.abandon = { s.cap with
      current := none
      abandoned := if s.cap.current = none then s.cap.abandoned else stopInc s.cap.abandoned } := by
    cases current : s.cap.current <;> simp [CaptureUnit.abandon, stopIncIf, current]
  simp only [t, interruptFrame, discardHeld, abandon, count, EventUnit.latchIf, stopAdd,
    decide_eq_true_eq]

/-! ### The word-complete happening (R32) -/

theorem EventUnit.hitMarkers_lt {ev : EventUnit} {position n : Nat} {phase : Option Nat}
    (hits : n ∈ ev.hitMarkers position phase) : n < 4 := by
  have : n ∈ [0, 1, 2, 3] := List.mem_of_mem_filter hits
  simp only [List.mem_cons, List.not_mem_nil, or_false] at this
  omega

/-- The markers that hit, each with its number (R170). -/
theorem EventUnit.hitting_eq (ev : EventUnit) (position : Nat) (phase : Option Nat) :
    (([(0, ev.marker0), (1, ev.marker1), (2, ev.marker2), (3, ev.marker3)] : List (Nat × Marker)).filter
      fun m => decide (m.2.position ≠ 0 ∧ m.2.position = position
        ∧ (m.2.any = true ∨ phase = some m.2.phase.toNat)))
      = (ev.hitMarkers position phase).map fun n => (n, ev.marker n) := by
  show (([0, 1, 2, 3] : List Nat).map fun n => (n, ev.marker n)).filter _ = _
  rw [List.filter_map, hitMarkers]
  congr 1
  refine List.filter_congr fun n _ => ?_
  simp [Marker.hits, Bool.and_assoc]

/-- The MARK records, word by word (R170, Table 12-6). -/
theorem EventUnit.markRecords_words (ev : EventUnit) (ns : List Nat) (fsn : Word) (coast : Bool) :
    ev.markRecords ns fsn coast
      = ((ns.map fun n => (n, ev.marker n)).filter fun m =>
          decide (m.2.action = .statusAndRecord)).map fun m =>
          [0x6004 ||| (if coast then 0x1000 else 0), fsn, 9, BitVec.ofNat 16 m.1] := by
  rw [List.filter_map, List.map_map, markRecords]
  refine List.map_congr_left fun n _ => ?_
  rw [Event.record_words, placed_eq, pow_zero, mul_one]
  rfl

/-- A block's only event offers its record under its mask bit. -/
theorem eventRecords_one (ev : EventUnit) {e : Event} {i : Nat} (masked : e.code.maskIndex = some i) :
    eventRecords ev [e] = if ev.recordMask.getLsbD i then
      [[0x6004 ||| (if e.coast then 0x1000 else 0), e.fsn, BitVec.ofNat 16 e.code.code, e.arg]]
      else [] := by
  have mask : ev.recordsEvent e.code = ev.recordMask.getLsbD i := by
    simp [EventUnit.recordsEvent, masked]
  rw [eventRecords_words, List.filter_singleton, mask]
  cases ev.recordMask.getLsbD i <;> rfl

/-- The latched bit of a reading: SF_LOCK sets bit 4 and SF_LOST bit 5 (R51, R52, Table 10-1). -/
def SubEvent.latched : SubEvent → BitVec 15
  | .noEvent => 0
  | .locked _ => 0x0010
  | .lost => 0x0020

theorem SubEvent.latchIf_eq (e : SubEvent) (ev : EventUnit) :
    ((ev.latchIf (decide (e = .lost)) .sfLost).latchIf (decide (e ≠ .lost ∧ e ≠ .noEvent)) .sfGained)
      = { ev with latched := ev.latched ||| e.latched } := by
  cases e with
  | noEvent => simp [EventUnit.latchIf, latched]
  | locked p => rfl
  | lost => rfl

theorem reactToWord_eq (i : WordInfo) (s : State) :
    reactToWord i s = { s with
      sf := (s.sf.wordComplete s.fmt i.position i.raw).1
      cap := s.cap.wordComplete (decide (i.position = s.fmt.wpf)) (s.map.captures i.position) i.raw
      ev := { s.ev with
        hits := (s.ev.setHits (s.ev.hitMarkers i.position i.phase)).hits
        latched := s.ev.latched ||| (s.sf.wordComplete s.fmt i.position i.raw).2.latched } } := by
  dsimp only [reactToWord]
  rw [SubEvent.latchIf_eq]
  rfl

/-- The discard at word WPF and the other reactions to the word do not meet but in the latched bits. -/
theorem discardAtWpf_reactToWord (i : WordInfo) (s : State) :
    discardAtWpf i.position (reactToWord i s) = { (discardAtWpf i.position s) with
      sf := (s.sf.wordComplete s.fmt i.position i.raw).1
      cap := s.cap.wordComplete (decide (i.position = s.fmt.wpf)) (s.map.captures i.position) i.raw
      ev := { (discardAtWpf i.position s).ev with
        hits := (s.ev.setHits (s.ev.hitMarkers i.position i.phase)).hits
        latched := (discardAtWpf i.position s).ev.latched
          ||| (s.sf.wordComplete s.fmt i.position i.raw).2.latched } } := by
  rw [reactToWord_eq]
  by_cases last : i.position = s.fmt.wpf
  · rw [discardAtWpf, discardAtWpf, if_pos last, if_pos last]
    by_cases heldParts : 0 < s.chan.heldCount
    · simp only [discardHeld, EventUnit.latchIf, heldParts, decide_true, if_true]
      rw [BitVec.or_assoc, BitVec.or_comm (SubEvent.latched _), ← BitVec.or_assoc]
    · simp [discardHeld, EventUnit.latchIf, heldParts]
  · rw [discardAtWpf, discardAtWpf, if_neg last, if_neg last]

theorem decodeWord_hits (i : WordInfo) (s : State) : (decodeWord i s).ev.hits = s.ev.hits := by
  unfold decodeWord
  split <;> rfl

theorem decodeWord_marker (i : WordInfo) (s : State) (n : Nat) :
    (decodeWord i s).ev.marker n = s.ev.marker n := by
  unfold decodeWord
  split
  case h_4 c part _ =>
    unfold EventUnit.marker
    split <;> rfl
  all_goals rfl

theorem decodeWord_hitMarkers (i : WordInfo) (s : State) (position : Nat) (phase : Option Nat) :
    (decodeWord i s).ev.hitMarkers position phase = s.ev.hitMarkers position phase := by
  simp only [EventUnit.hitMarkers, decodeWord_marker]

/-- The word-complete happening: the decode, the discard at word WPF, and beside them the other blocks'
reactions to the word; then the four blocks' offers. -/
theorem wordComplete_eq (k : Nat) (s : State) :
    wordComplete k s = offerAll (weaveAll s.order (wordRecords (s.wordInfo k) s))
      { discardAtWpf k (decodeWord (s.wordInfo k) s) with
        sf := (s.sf.wordComplete s.fmt k (s.wordInfo k).raw).1
        cap := s.cap.wordComplete (decide (k = s.fmt.wpf)) (s.map.captures k) (s.wordInfo k).raw
        ev := { (discardAtWpf k (decodeWord (s.wordInfo k) s)).ev with
          hits := (s.ev.setHits (s.ev.hitMarkers k (s.wordInfo k).phase)).hits
          latched := (discardAtWpf k (decodeWord (s.wordInfo k) s)).ev.latched
            ||| (s.sf.wordComplete s.fmt k (s.wordInfo k).raw).2.latched }
        order := s.order + (wordRecords (s.wordInfo k) s).flatten.length } := by
  have effect := discardAtWpf_reactToWord (s.wordInfo k) (decodeWord (s.wordInfo k) s)
  simp only [EventUnit.setHits, decodeWord_hits, decodeWord_hitMarkers, decodeWord_sf, decodeWord_cap,
    decodeWord_fmt, decodeWord_map] at effect
  rw [wordComplete, offerBlocks]
  simp only [discardAtWpf_order, reactToWord_order, decodeWord_order]
  generalize s.order + (wordRecords (s.wordInfo k) s).flatten.length = n
  exact congrArg (fun t : State => offerAll _ { t with order := n }) effect

/-- Settles O19: `wordComplete_eq`, with the records in their words. -/
theorem wordCompletionReachesEveryBlock : Obligations.WordCompletionReachesEveryBlock := by
  intro k s i flag last reading hitting header decoded kept
  have hittingIs : hitting = (s.ev.hitMarkers k i.phase).map fun n => (n, s.ev.marker n) :=
    s.ev.hitting_eq k i.phase
  have keptIs : discardAtWpf k decoded = kept := by
    rw [discardAtWpf, decodeWord_fmt]
  refine ⟨weaveAll s.order (wordRecords i s), s.order + (wordRecords i s).flatten.length,
    (s.ev.setHits (s.ev.hitMarkers k i.phase)).hits, ?_, fun b => ?_, ?_⟩
  · rw [hittingIs, ← EventUnit.markRecords_words]
    refine (congrArg (fun g => Interleaves [sampleOffered i s, s.cap.frameOffered last flag i.raw, g,
      s.ev.markRecords (s.ev.hitMarkers k i.phase) i.fsn i.coast] _) ?_).mpr
      (offersOfOneHappeningInterleave s.order (wordRecords i s))
    change _ = eventRecords s.ev (reading.2.events i.fsn i.coast)
    cases reading.2 with
    | noEvent => rfl
    | locked p =>
      rw [SubEvent.events, eventRecords_one s.ev (i := 5) rfl, placed_eq, pow_zero, mul_one]
      rfl
    | lost =>
      rw [SubEvent.events, eventRecords_one s.ev (i := 6) rfl]
      rfl
  · rw [EventUnit.setHits_getLsbD _ _ (fun _ => EventUnit.hitMarkers_lt), hittingIs, List.any_map]
    rfl
  · rw [wordComplete_eq, ← keptIs]
    rfl

end Sys2Proof.Machine
end

section
/-! PROOF. The Map Store: resolution (R64, R65), the end of a validation (R73, R74), SWAP and CANCEL_SWAP
(R70, R78), and host writes to a bank (R67, R68). -/

namespace Sys2Proof.Machine

/-! ### Resolution -/

theorem bitField_channel (w : Word) : bitField w 0 8 = w.toNat % 256 := by simp [bitField_eq]

theorem mapKind_ignore {w : Word} (kind : w.toNat / 2 ^ 14 = 0) : mapKind w = .ignore := by
  rw [mapKind, bitField_kind, kind]
  rfl

theorem mapKind_channel {w : Word} (kind : w.toNat / 2 ^ 14 = 1) :
    mapKind w = .channel (w.toNat % 256) (partOf w) := by
  rw [mapKind, bitField_kind, kind, bitField_channel]
  rfl

theorem mapKind_subcom {w : Word} (kind : w.toNat / 2 ^ 14 = 2) : mapKind w = .subcom (w.toNat % 64) := by
  rw [mapKind, bitField_kind, kind, bitField_list]
  rfl

/-- An INHERIT position takes the default entry, any other its own (R61). -/
theorem MapBank.resolvedEntry_eq (k : MapBank) (position : Nat) :
    k.resolvedEntry position
      = if (k.mapWord position).toNat / 2 ^ 14 = 3 then k.mapWord 0 else k.mapWord position := by
  rw [← bitField_kind]
  rcases mapKind_cases (k.mapWord position) with
    ⟨code, kind⟩ | ⟨code, kind⟩ | ⟨code, kind⟩ | ⟨code, kind⟩ <;> simp [resolvedEntry, kind, code]

/-- A pool word names its channel, but for NONE (R63). -/
theorem poolChannel_eq (w : Word) :
    poolChannel w = if w = 0xFFFF then none else some (w.toNat % 256) := by
  rw [poolChannel, bitField_channel]

/-- Settles O22: each kind of the resolved entry has one meaning. -/
theorem resolutionFollowsTheActiveBank : Obligations.ResolutionFollowsTheActiveBank := by
  intro m position phase k own e kind list
  have entry : k.resolvedEntry position = e := k.resolvedEntry_eq position
  have resolve : m.resolve position phase = k.meaning e phase := by rw [← entry]; rfl
  refine ⟨?_, fun ignore => ?_, fun part channel named => ?_, fun subcom unknown => ?_,
    fun p subcom known => ?_⟩
  · rw [← entry]
    rfl
  · rw [resolve, MapBank.meaning, mapKind_ignore ignore]
  · have partIs : partOf e = part := by
      rw [partOf, bitField_part]
      rcases named with ⟨code, rfl⟩ | ⟨code, rfl⟩ | ⟨code, rfl⟩ <;> rw [code] <;> rfl
    rw [resolve, MapBank.meaning, mapKind_channel channel, partIs]
  · rw [resolve, MapBank.meaning, mapKind_subcom subcom, unknown]
  · intro w
    rw [resolve, MapBank.meaning, mapKind_subcom subcom, known]
    dsimp only
    rw [poolChannel_eq, show k.poolEntry (e.toNat % 64) p = w from rfl]
    by_cases none : w = 0xFFFF
    · rw [if_pos none, if_pos none]
    · rw [if_neg none, if_neg none]

/-! ### Validation and swap -/

theorem effectOf_validationEnd {s : State} (released : s.resetAsserted = false)
    (validating : s.map.swap = .validating) :
    exec .validationEnd s = .next (match (s.map.bank s.map.standby).validate with
      | some (location, reason) => validationFailed location reason s
      | none => validationPassed s) :=
  (exec_released _ s released).trans (congrArg _ (if_pos validating))

/-- Settles O24: the outcome of the validation decides, and a pass asks whether a frame is decoded. -/
theorem validationEndOutcome : Obligations.ValidationEndOutcome := by
  intro s released validating k cleared decoding
  have ends := effectOf_validationEnd released validating
  have decodingIff : (s.run = .run ∧ s.fs.sync.inLock = true) ↔ decoding := by
    rw [SyncState.inLock_iff]
  refine ⟨fun location reason fails => ?_, fun passes waits => ?_, fun passes free => ?_⟩
  · rw [ends, show (s.map.bank s.map.standby).validate = _ from fails]
    rfl
  · rw [ends, show (s.map.bank s.map.standby).validate = _ from passes]
    dsimp only
    rw [validationPassed, if_pos (decodingIff.2 waits)]
  · have ⟨n, hand⟩ := handEvents_swap s.map s.fs.fsn
      { s with map := { s.map with active := s.map.standby, swap := .editable, fault := cleared } }
    refine ⟨n, ?_⟩
    rw [ends, show (s.map.bank s.map.standby).validate = _ from passes]
    dsimp only
    rw [validationPassed, if_neg (mt decodingIff.1 free)]
    exact congrArg _ hand

/-- Settles O25: the two commands are refused on opposite swap states. -/
theorem swapCommandsMoveTheSwapState : Obligations.SwapCommandsMoveTheSwapState := by
  intro s released answer
  have swap : exec .swap s = .next (if decide (s.map.swap ≠ .editable)
      then answer s.map.swap 0x04 .refusedBusy else answer .validating 0x04 .accepted) := by
    rw [exec_released _ s released, effectOf, swapCmd, answered_refuseIf]
    rfl
  have cancel : exec .cancelSwap s = .next (if decide (s.map.swap = .editable)
      then answer s.map.swap 0x05 .refusedState else answer .editable 0x05 .accepted) := by
    rw [exec_released _ s released, effectOf, cancelSwapCmd, answered_refuseIf]
    rfl
  rw [swap, cancel]
  exact ⟨fun editable => by simp [editable], fun busy => by simp [busy]⟩

/-! ### TDATA writes (R176) -/

theorem exec_tdataWrite_inside {s : State} (released : s.resetAsserted = false)
    (inside : s.host.tindex < s.host.tspace.words) (w : Word) :
    exec (.tdataWrite w) s = .next (setIndex (s.host.tindex + 1)
      (writeTable s.host.tspace s.host.tindex w s)) := by
  rw [exec_released _ s released, effectOf, writeTdata, State.indexInSpace, if_pos (by simp [inside])]

theorem exec_tdataWrite_beyond {s : State} (released : s.resetAsserted = false)
    (beyond : s.host.tspace.words ≤ s.host.tindex) (w : Word) :
    exec (.tdataWrite w) s = .next (hostError .tableAddress s) := by
  rw [exec_released _ s released, effectOf, writeTdata, State.indexInSpace, if_neg (by simp [beyond])]

/-! ### Writes to a bank (R67, R68) -/

/-- The offset of a bank's space reads what was written there, every other what it read before. -/
theorem MapBank.readSpace_writeSpace {k : MapBank} (canonical : k.Canonical) (sp sp' : BankSpace)
    (n j : Nat) (w : Word) :
    (k.writeSpace sp n w).readSpace sp' j = if sp' = sp ∧ j = n then w else k.readSpace sp' j := by
  obtain ⟨⟨map, -⟩, ⟨lists, -⟩, ⟨pool, -⟩⟩ := canonical
  by_cases same : sp' = sp
  · subst same
    simp only [true_and]
    cases sp'
    case map => exact Memory.read_write _ _ n j w map
    case lists => exact Memory.read_write _ _ n j w lists
    case pool => exact Memory.read_write _ _ n j w pool
  · rw [if_neg (same ·.1)]
    cases sp <;> cases sp' <;> simp_all [readSpace, writeSpace, mapWord, listWord, poolWord]

/-- The words that a space refuses with RANGE (R67). -/
theorem BankSpace.valid_eq_false_iff (sp : BankSpace) (k : Nat) (w : Word) :
    sp.valid k w = false ↔ match sp with
      | .map => w.toNat / 2 ^ 14 = 1 ∧ w.toNat / 256 % 4 = 3
      | .lists => if k % 2 = 0 then 1023 < w.toNat else 256 < w.toNat
      | .pool => 255 < w.toNat ∧ w ≠ 0xFFFF := by
  cases sp
  case map => simp [valid, mapWordValid, bitField_kind, bitField_part]
  case lists =>
    dsimp only [valid, listWordValid]
    split <;> simp
  case pool => simp [valid, poolWordValid]

theorem MapStore.setBank_other (m : MapStore) (which : Bank) (k : MapBank) :
    (m.setBank which k).bank which.other = m.bank which.other ∧ (m.setBank which k).active = m.active
      ∧ (m.setBank which k).swap = m.swap ∧ (m.setBank which k).fault = m.fault := by
  cases which <;> exact ⟨rfl, rfl, rfl, rfl⟩

theorem State.MemoriesCanonical.bank {s : State} (h : s.MemoriesCanonical) (which : Bank) :
    (s.map.bank which).Canonical := by
  obtain ⟨a, b, -, -⟩ := h
  cases which
  · exact a
  · exact b

/-- Settles O26: `writeBank` is the write of all six spaces, and its checks are tried in order. -/
theorem bankWriteCheckedThenStored : Obligations.BankWriteCheckedThenStored := by
  intro s w bank sp released space inside canonical k stepped bad
  have table : writeTable s.host.tspace k w s = writeBank bank sp k w s := by
    simp only [List.mem_cons, Prod.mk.injEq, List.not_mem_nil, or_false] at space
    rcases space with ⟨h, rfl, rfl⟩ | ⟨h, rfl, rfl⟩ | ⟨h, rfl, rfl⟩ | ⟨h, rfl, rfl⟩ | ⟨h, rfl, rfl⟩
      | ⟨h, rfl, rfl⟩ <;> rw [h, writeTable]
  have write := exec_tdataWrite_inside released inside w
  rw [table] at write
  have refused {e : HostError} (error : s.map.writeError bank sp k w = some e) :
      exec (.tdataWrite w) s = .next (stepped (hostError e s)) := by
    rw [write, writeBank, error]
    rfl
  have badIff : sp.valid k w = false ↔ bad := sp.valid_eq_false_iff k w
  refine ⟨fun active => refused ?_, fun standby busy => refused ?_,
    fun standby editable isBad => refused ?_, fun standby editable good =>
      ⟨s.map.setBank bank ((s.map.bank bank).writeSpace sp k w), ?_, fun sp' j => ?_, ?_⟩⟩
  · rw [MapStore.writeError, if_pos active]
  · rw [MapStore.writeError, if_neg standby, if_pos busy]
  · rw [MapStore.writeError, if_neg standby, if_neg (not_not.2 editable), badIff.2 isBad]
    rfl
  · have none : s.map.writeError bank sp k w = none := by
      rw [MapStore.writeError, if_neg standby, if_neg (not_not.2 editable),
        Bool.eq_true_of_not_eq_false (mt badIff.1 good)]
      rfl
    rw [write, writeBank, none]
    rfl
  · rw [MapStore.bank_setBank, if_pos rfl, MapBank.readSpace_writeSpace (canonical.bank bank)]
  · exact s.map.setBank_other bank _

end Sys2Proof.Machine
end

section
/-! PROOF. Fields taken from a word and put back at their places (R182), and writes to the PROFILES space
(R84 to R86). -/

namespace Sys2Proof.Machine

/-! ### Fields put back at their places -/

theorem placed_bitField (w : Word) (lo len : Nat) :
    placed (bitField w lo len) lo = w &&& placed (2 ^ len - 1) lo := by
  apply BitVec.eq_of_getLsbD_eq
  intro i hi
  simp only [placed, bitField, BitVec.ofNat_toNat, BitVec.getLsbD_shiftLeft, BitVec.getLsbD_setWidth,
    BitVec.getLsbD_extractLsb', BitVec.getLsbD_and, BitVec.getLsbD_ofNat, Nat.testBit_two_pow_sub_one]
  by_cases low : i < lo
  · simp [low]
  · rw [show lo + (i - lo) = i by omega]
    have inWord : i - lo < 16 := by omega
    by_cases inside : i - lo < len <;> simp [hi, low, inside, inWord]

theorem placedBit_eq (b : Bool) (i : Nat) : placedBit b i = placed b.toNat i := by
  cases b
  · simp [placedBit, placed]
  · rfl

theorem placedBit_bitAt (w : Word) (i : Nat) : placedBit (bitAt w i) i = w &&& placed 1 i := by
  have bit : (bitAt w i).toNat = bitField w i 1 := by
    rw [bitField_eq, bitAt, BitVec.getLsbD, Nat.toNat_testBit, pow_one]
  rw [placedBit_eq, bit, placed_bitField]
  rfl

/-- One bit of two names, told apart by the first. -/
theorem decide_ite_eq {α : Type} [DecidableEq α] {x y : α} (differ : y ≠ x) (b : Bool) :
    decide ((if b then x else y) = x) = b := by
  cases b <;> simp [differ]

/-! ### The words of a profile (Table 12-3) -/

theorem codingOf_code {n : Nat} (small : n < 4) : (codingOf n).code = n := by
  interval_cases n <;> rfl

theorem parityOf_code {n : Nat} {parity : Parity} (names : parityOf n = some parity) : parity.code = n := by
  unfold parityOf at names
  split at names <;> cases names <;> rfl

theorem parityOf_eq_none_iff {n : Nat} (small : n < 4) : parityOf n = none ↔ n = 3 := by
  interval_cases n <;> simp [parityOf]

/-- A candidate is refused on the four conditions of Table 5-2 alone (R86). -/
theorem profileOf_eq_none_iff (a b c d : Word) :
    profileOf a b c d = none ↔
      a.toNat / 8 % 4 = 3
        ∨ b.toNat / 256 % 64 = 0 ∨ 32 < b.toNat / 256 % 64
        ∨ 32 < b.toNat % 32 + b.toNat / 256 % 64
        ∨ (a.getLsbD 6 = true ∧ 16 < b.toNat / 256 % 64) := by
  have lsb : bitField b 0 5 = b.toNat % 32 := by simp [bitField_eq]
  have width : bitField b 8 6 = b.toNat / 256 % 64 := bitField_eq b 8 6
  have code : bitField a 3 2 = a.toNat / 8 % 4 := bitField_eq a 3 2
  have none := parityOf_eq_none_iff (n := bitField a 3 2) (bitField_lt a 3 2)
  rw [code] at none
  unfold profileOf
  rw [lsb, width, code]
  cases parity : parityOf (a.toNat / 8 % 4) with
  | none => simp [none.1 parity]
  | some mode =>
    have known : a.toNat / 8 % 4 ≠ 3 := fun h => by simp [none.2 h] at parity
    simp only [inRange, bitAt, ite_eq_right_iff, reduceCtorEq, imp_false, Bool.and_eq_true,
      Bool.not_eq_true', Bool.and_eq_false_iff, decide_eq_true_eq, decide_eq_false_iff_not]
    cases a.getLsbD 6 <;> simp <;> omega

theorem Profile.word_zero (p : Profile) :
    p.word 0 = (placedBit (p.order = .lsbFirst) 0 ||| placed p.coding.code 1 ||| placed p.parity.code 3
      ||| placedBit (p.parityAction = .drop) 5 ||| placedBit p.nullEn 6
      ||| placedBit (p.dest = .tableQueue) 7) := rfl

theorem Profile.word_one (p : Profile) :
    p.word 1 = (placed p.fieldLsb 0 ||| placed p.fieldWidth 8) := rfl

/-- A committed profile reads back its words, unassigned bits as 0 (R182). -/
theorem profileOf_words {a b c d : Word} {p : Profile} (h : profileOf a b c d = some p) :
    p.word 0 = a &&& 0x00FF ∧ p.word 1 = b &&& 0x3F1F ∧ p.word 2 = c ∧ p.word 3 = d := by
  unfold profileOf at h
  split at h
  · cases h
  · rename_i parity names
    dsimp only at h
    split at h
    · cases h
      refine ⟨?_, ?_, rfl, rfl⟩
      · rw [Profile.word_zero]
        have coding : (codingOf (bitField a 1 2)).code = bitField a 1 2 :=
          codingOf_code (bitField_lt a 1 2)
        have mode : parity.code = bitField a 3 2 := parityOf_code names
        simp only [coding, mode, decide_ite_eq (x := BitOrder.lsbFirst) (y := .msbFirst) nofun,
          decide_ite_eq (x := ParityAction.drop) (y := .flag) nofun,
          decide_ite_eq (x := Dest.tableQueue) (y := .table) nofun, placed_bitField, placedBit_bitAt, ← BitVec.and_or_distrib_left]
        exact congrArg (a &&& ·) (by decide)
      · rw [Profile.word_one]
        simp only [placed_bitField, ← BitVec.and_or_distrib_left]
        exact congrArg (b &&& ·) (by decide)
    · cases h

/-- Settles O27: the write stages a word, or commits or refuses the candidate. -/
theorem profileWritesStageAndCommit : Obligations.ProfileWritesStageAndCommit := by
  intro s w released space inside canonical k n fresh g stepped staged
  obtain ⟨-, -, ⟨profiles, -⟩, -⟩ := canonical
  have write := exec_tdataWrite_inside released (by rw [space]; exact inside) w
  rw [space, writeTable, writeProfile] at write
  have stage (j : Nat) (word : k % 4 = j) (early : j ≠ 3) :
      exec (.tdataWrite w) s = .next (staged (g.set j w)) := by
    rw [write, if_neg (word ▸ early), ← word]
    rfl
  have commit (last : k % 4 = 3) : exec (.tdataWrite w) s = .next (stepped
      (match profileOf g.word0 g.word1 g.word2 w with
      | some p => { s with prof := s.prof.commit n p }
      | none => hostError .profileInvalid { s with prof := s.prof.refuseCommit n })) := by
    rw [write, if_pos last]
    cases candidate : profileOf g.word0 g.word1 g.word2 w <;>
      rw [show s.prof.candidate (s.host.tindex / 4) w = _ from candidate] <;> rfl
  refine ⟨fun word => stage 0 word (by decide), fun word => stage 1 word (by decide),
    fun word => stage 2 word (by decide), fun p last passes => ⟨s.prof.commit n p, ?_, fun j => ?_, rfl⟩,
    fun last fails => ?_, fun a b c d => ⟨profileOf_eq_none_iff a b c d, fun p => profileOf_words⟩⟩
  · rw [commit last, passes]
  · exact Memory.read_write _ _ n j p profiles
  · have refuse : s.prof.refuseCommit n = { s.prof with
        staging := match s.prof.staging with
          | some h => if h.number = n then some h else none
          | none => none } := by
      unfold ProfileTable.refuseCommit
      cases s.prof.staging <;> simp [Option.filter]
    rw [commit last, fails]
    exact congrArg (fun t => Host.Outcome.next (stepped (hostError .profileInvalid
      { s with prof := t }))) refuse

end Sys2Proof.Machine
end

section
/-! PROOF. The Word Decoder: codings and their stored values (R97 to R100), the parts of a decode (R91 to
R96), null, deadband and update (R98 to R102, R108), and what a completed word reaches (R89, R90, R103). -/

namespace Sys2Proof.Machine

/-! ### Codings (Table 5-4) -/

/-- The top bit of a field says whether it lies in the upper half. -/
theorem testBit_top {f n : Nat} (fits : f < 2 ^ (n + 1)) : f.testBit n = decide (2 ^ n ≤ f) := by
  rw [Nat.testBit_eq_decide_div_mod_eq]
  have small : f / 2 ^ n < 2 := Nat.div_lt_of_lt_mul (by rw [← pow_succ]; exact fits)
  have half : 2 ^ n ≤ f ↔ 1 ≤ f / 2 ^ n := by
    rw [Nat.le_div_iff_mul_le (Nat.two_pow_pos n), one_mul]
  rw [decide_eq_decide, half]
  generalize f / 2 ^ n = q at small
  omega

/-- Every coded value but an unsigned one lies in the signed range of the field's width. -/
theorem codedValue_signed {coding : Coding} (signed : coding ≠ .unsigned) {n f : Nat}
    (fits : f < 2 ^ (n + 1)) :
    -(2 ^ n : Int) ≤ codedValue coding (n + 1) f ∧ codedValue coding (n + 1) f < 2 ^ n := by
  have upper : (f : Int) < 2 ^ n * 2 := by rw [← pow_succ]; exact_mod_cast fits
  have power : ((2 ^ n : Nat) : Int) = 2 ^ n := by norm_num
  cases coding
  case unsigned => exact absurd rfl signed
  case twos =>
    simp only [codedValue, Nat.add_sub_cancel, pow_succ]
    split <;> omega
  case offset =>
    simp only [codedValue, Nat.add_sub_cancel]
    omega
  case signMag =>
    have := Nat.mod_lt f (Nat.two_pow_pos n)
    simp only [codedValue, Nat.add_sub_cancel]
    split <;> omega

/-- The 32 bits stored for a coded value read back, under the same coding, as that value (R100). -/
theorem storedValue_codedValue (coding : Coding) {n f : Nat} (width : n < 32) (fits : f < 2 ^ (n + 1)) :
    storedValue coding (BitVec.ofInt 32 (codedValue coding (n + 1) f)) = codedValue coding (n + 1) f := by
  by_cases unsigned : coding = .unsigned
  · subst unsigned
    have small : f < 2 ^ 32 := fits.trans_le (Nat.pow_le_pow_right (by decide) width)
    simp only [codedValue, storedValue, BitVec.ofInt_natCast, BitVec.toNat_ofNat, Nat.mod_eq_of_lt small]
  · obtain ⟨low, high⟩ := codedValue_signed unsigned fits
    have reads : storedValue coding (BitVec.ofInt 32 (codedValue coding (n + 1) f))
        = (BitVec.ofInt 32 (codedValue coding (n + 1) f)).toInt := by
      cases coding
      case unsigned => exact absurd rfl unsigned
      all_goals rfl
    have half : (2 : Int) ^ n ≤ 2 ^ 31 := pow_le_pow_right₀ (by norm_num) (by omega)
    rw [reads, BitVec.toInt_ofInt]
    exact Int.bmod_eq_of_le (by norm_num at half ⊢; omega) (by norm_num at half ⊢; omega)

/-- Settles O28: the codings by the field's top bit, and their bounds inside 32 bits. -/
theorem codedValueFitsItsRepresentation : Obligations.CodedValueFitsItsRepresentation := by
  intro w f least most fits
  obtain ⟨n, rfl⟩ : ∃ n, w = n + 1 := ⟨w - 1, by omega⟩
  have top := testBit_top fits
  refine ⟨rfl, ?_, rfl, ?_, fun coding => storedValue_codedValue coding most fits,
    fun p value i width => ?_⟩
  · simp only [codedValue, Nat.add_sub_cancel, top, decide_eq_true_eq, ← Nat.not_lt, ite_not]
  · simp only [codedValue, Nat.add_sub_cancel, top, decide_eq_true_eq, ← Nat.not_lt, ite_not]
    split
    · rename_i low
      rw [Nat.mod_eq_of_lt low]
    · rfl
  · rw [Profile.field, width, Nat.testBit_mod_two_pow, Nat.testBit_div_two_pow,
      Nat.add_comm i]

/-! ### Parts (R91 to R96) -/

/-- Under LSB_FIRST raw bit b becomes bit WLEN - 1 - b (R91). -/
theorem orderedWord_lsbFirst {wlen b : Nat} (most : wlen ≤ 16) (inside : b < wlen) (raw : Word) :
    (orderedWord .lsbFirst wlen raw).testBit (wlen - 1 - b) = raw.getLsbD b := by
  have place : 16 - wlen + (wlen - 1 - b) = 15 - b := by omega
  have mirror : 16 - 1 - (15 - b) = b := by omega
  rw [orderedWord, BitVec.testBit_toNat, BitVec.getLsbD_ushiftRight, place, BitVec.getLsbD_reverse,
    BitVec.getMsbD, mirror]
  simp
  omega

theorem orderedWord_lsbFirst_lt {wlen : Nat} (most : wlen ≤ 16) (raw : Word) :
    orderedWord .lsbFirst wlen raw < 2 ^ wlen := by
  rw [orderedWord, BitVec.toNat_ushiftRight, Nat.shiftRight_eq_div_pow]
  refine Nat.div_lt_of_lt_mul ?_
  rw [← pow_add, Nat.sub_add_cancel most]
  exact raw.reverse.isLt

/-- Settles O29: the three parts of `decodePart`, each by the parity check and DROP. -/
theorem partsAreOrderedCheckedAndJoined : Obligations.PartsAreOrderedCheckedAndJoined := by
  intro p wlen c i e
  refine ⟨fun _ most _ => ⟨rfl, fun b inside => orderedWord_lsbFirst most inside i.raw,
    orderedWord_lsbFirst_lt most i.raw⟩, ?_⟩
  intro ones fails drops
  have failsIs : parityFails p.parity wlen i.raw = fails := rfl
  have dropsIff : (fails && decide (p.parityAction = .drop)) = true ↔ drops := by
    rw [Bool.and_eq_true, decide_eq_true_eq]
  refine ⟨fun drop => ?_, fun keep => ?_, rfl, fun drop => ?_, fun keep none => ?_,
    fun h keep held failed dropping => ?_, fun h keep held passes => ?_⟩
  · rw [decodePart, decodeWhole, failsIs, if_pos (dropsIff.2 drop)]
  · rw [decodePart, decodeWhole, failsIs, if_neg (mt dropsIff.1 keep)]
  · rw [decodePart, decodeLower, failsIs, if_pos (dropsIff.2 drop)]
    rfl
  · rw [decodePart, decodeLower, failsIs, if_neg (mt dropsIff.1 keep), none]
  · rw [decodePart, decodeLower, failsIs, if_neg (mt dropsIff.1 keep), held]
    dsimp only
    rw [if_pos (by simp [failed, dropping])]
    rfl
  · rw [decodePart, decodeLower, failsIs, if_neg (mt dropsIff.1 keep), held]
    dsimp only
    rw [if_neg (by rcases passes with h | h <;> simp [h])]
    rfl

/-! ### From the value to the channel (R98 to R102, R108) -/

theorem phaseByte_eq (phase : Option Nat) :
    phaseByte phase = match phase with
      | some n => BitVec.ofNat 8 n
      | none => 0xFF := by
  cases phase <;> rfl

theorem header_sample (coast parity overrun : Bool) :
    header .sample coast parity overrun 5
      = 0x2005 ||| (if coast then 0x1000 else 0) ||| (if parity then 0x0800 else 0)
          ||| (if overrun then 0x0400 else 0) := by
  cases coast <;> cases parity <;> cases overrun <;> rfl

/-- Settles O30: the three branches of `decodeValue`. -/
theorem valueIsNulledSuppressedOrStored : Obligations.ValueIsNulledSuppressedOrStored := by
  intro p c i value flagged bad e f v x phase null near
  have nullIff : (p.nullEn && decide (f = p.nullValue.toNat)) = true ↔ null := by
    rw [Bool.and_eq_true, decide_eq_true_eq]
  have nearIff : suppresses p e v = true ↔ near := by
    rw [suppresses, Bool.and_eq_true, decide_eq_true_eq]
  have phaseIs : phaseByte i.phase = phase := phaseByte_eq i.phase
  refine ⟨fun isNull => ?_, fun value' isNear => ?_, fun value' far => ?_⟩
  · rw [decodeValue, if_pos (nullIff.2 isNull)]
  · rw [decodeValue, if_neg (mt nullIff.1 value'), if_pos (nearIff.2 isNear)]
    rfl
  · rw [decodeValue, if_neg (mt nullIff.1 value'), if_neg (mt nearIff.1 far), ChannelEntry.update,
      sampleRecord, header_sample, phaseIs]
    rfl

/-! ### What a completed word reaches (R89, R90, R103) -/

theorem EventUnit.latchIf_eq (ev : EventUnit) (cause : Bool) (b : LatchedBit) :
    ev.latchIf cause b = { ev with latched := ev.latched ||| (if cause then b.mask else 0) } := by
  cases cause <;> simp [latchIf]

theorem decodeWord_channel {i : WordInfo} {s : State} {c : Nat} {part : Part}
    (found : s.map.resolve i.position i.phase = .channel c part) :
    decodeWord i s = applyDecode c (decodeChannel s c part i) s
      ∧ sampleOffered i s = (decodeChannel s c part i).record.toList := by
  rw [decodeWord, sampleOffered, found]
  exact ⟨rfl, rfl⟩

/-- Settles O31: the resolutions of `decodeWord`, and the enable of the one channel. -/
theorem decodeReachesOneChannel : Obligations.DecodeReachesOneChannel := by
  intro i s canonical found
  obtain ⟨-, -, -, entries, -⟩ := canonical
  refine ⟨?_, fun unknown => ?_, fun c part named => ?_⟩
  · rintro (ignore | none)
    · rw [decodeWord, sampleOffered, show s.map.resolve i.position i.phase = _ from ignore]
      exact ⟨rfl, rfl⟩
    · rw [decodeWord, sampleOffered, show s.map.resolve i.position i.phase = _ from none]
      exact ⟨rfl, rfl⟩
  · rw [decodeWord, sampleOffered, show s.map.resolve i.position i.phase = _ from unknown]
    exact ⟨rfl, rfl⟩
  · intro e d t
    obtain ⟨decoded, sample⟩ := decodeWord_channel named
    have read (c' : Nat) (x : ChannelEntry) :
        (s.chan.setEntry c x).entry c' = if c' = c then x else s.chan.entry c' :=
      Memory.read_write _ _ c c' x entries
    have tIs : t = applyDecode c (decodeChannel s c part i) s := decoded
    rw [sample, tIs]
    cases enable : e.enable with
    | false =>
      have quiet : decodeChannel s c part i = { entry := e } :=
        if_neg (by rw [show (s.chan.entry c).enable = false from enable]; exact nofun)
      rw [quiet]
      refine ⟨fun c' => ?_, rfl, rfl, ?_⟩
      · refine (read c' e).trans ?_
        by_cases same : c' = c
        · rw [if_pos same, if_neg (by simp), same]
        · rw [if_neg same, if_neg (by simp)]
      · simp [applyDecode, stopIncIf, EventUnit.latchIf]
    | true =>
      have acts : decodeChannel s c part i = d := if_pos enable
      rw [acts]
      refine ⟨fun c' => ?_, rfl, rfl, ?_⟩
      · refine (read c' d.entry).trans ?_
        simp only [and_true]
      · simp only [applyDecode, EventUnit.latchIf_eq, stopIncIf, if_true]

end Sys2Proof.Machine
end

section
/-! PROOF. The Channel Table (R113 to R119, Table 12-4), TDATA accesses to it and beyond the spaces (R175,
R176), and the Capture Unit (R122, R125 to R127). -/

namespace Sys2Proof.Machine

/-! ### Writes and CLEAR_CHANNELS (R116, R117, R119) -/

/-- Settles O32: `clearAll` maps every entry, and the power-on entry to itself. -/
theorem clearChannelsKeepsTheConfiguration : Obligations.ClearChannelsKeepsTheConfiguration := by
  intro s released canonical
  obtain ⟨-, -, -, entries, -⟩ := canonical
  refine ⟨s.chan.clearAll.entries, exec_released _ s released, fun c => ?_⟩
  exact Memory.read_mapAll ({} : ChannelEntry) ChannelEntry.clearDynamic rfl _ entries c

theorem ChannelEntry.writeWord0_eq (e : ChannelEntry) (w : Word) :
    e.writeWord0 w = { e with
      enable := w.getLsbD 0, notify := w.getLsbD 1, profile := w.extractLsb' 4 4
      available := e.available && !w.getLsbD 9
      overrun := e.overrun && !w.getLsbD 10 && !w.getLsbD 9
      parity := e.parity && !w.getLsbD 11 } := by
  simp only [writeWord0, bitField, BitVec.ofNat_toNat, BitVec.setWidth_eq]
  rfl

/-- Settles O33: the writes of the two spaces, and the write beyond. -/
theorem channelWritesAndRefusedTableWrites : Obligations.ChannelWritesAndRefusedTableWrites := by
  intro s w released canonical k stepped
  obtain ⟨-, -, -, entries, -⟩ := canonical
  have inside {sp : Space} (space : s.host.tspace = sp) (small : k < sp.words) :
      exec (.tdataWrite w) s = .next (setIndex (k + 1) (writeTable sp k w s)) := by
    rw [exec_tdataWrite_inside released (space ▸ small), space]
  refine ⟨fun beyond => exec_tdataWrite_beyond released beyond w, fun small space => inside space small,
    fun small space other => ?_, fun small space first =>
      ⟨Memory.write {} s.chan.entries (k / 8) ((s.chan.entry (k / 8)).writeWord0 w), ?_, fun c => ?_⟩⟩
  · rw [inside space small, writeTable, writeChannel, if_neg other]
    rfl
  · rw [inside space small, writeTable, writeChannel, if_pos first]
    rfl
  · refine (Memory.read_write ({} : ChannelEntry) _ _ c _ entries).trans ?_
    by_cases same : c = k / 8
    · rw [if_pos same, if_pos same, ChannelEntry.writeWord0_eq, same]
    · rw [if_neg same, if_neg same]
      rfl

/-! ### Reads (R113, R114, R175) -/

theorem ChannelTable.atIndex_eq (t : ChannelTable) (k : Nat) :
    t.atIndex k = { t with
      latch := match t.latch with
        | some l => if k / 8 = l.channel then some l else none
        | none => none } := by
  obtain ⟨entries, latch⟩ := t
  cases latch with
  | none => rfl
  | some l =>
    dsimp only [atIndex]
    split <;> rfl

theorem exec_tdataRead_beyond {s : State} (released : s.resetAsserted = false)
    (beyond : s.host.tspace.words ≤ s.host.tindex) :
    exec .tdataRead s = .next (driveBus 0 (hostError .tableAddress s)) := by
  have outside : s.indexInSpace = false := decide_eq_false (Nat.not_lt.2 beyond)
  rw [exec_released _ s released, effectOf, readTdata, State.tdata, outside]
  rfl

theorem exec_tdataRead_inside {s : State} (released : s.resetAsserted = false)
    (inside : s.host.tindex < s.host.tspace.words) :
    exec .tdataRead s = .next (driveBus (s.tableWord s.host.tspace s.host.tindex)
      (setIndex (s.host.tindex + 1)
        { s with chan := latchFor s.host.tspace s.host.tindex s.chan })) := by
  have within : s.indexInSpace = true := decide_eq_true inside
  rw [exec_released _ s released, effectOf, readTdata, State.tdata, within]
  rfl

theorem ChannelTable.readWord_zero {t : ChannelTable} {k : Nat} (first : k % 8 = 0) :
    t.readWord k = (t.entry (k / 8)).word 0 := by
  rw [readWord, first]
  rfl

theorem ChannelTable.readWord_latched {t : ChannelTable} {k : Nat} {l : Snapshot} (later : k % 8 ≠ 0)
    (latched : t.latch = some l) (holds : l.channel = k / 8) :
    t.readWord k = (l.words[k % 8]?).getD 0 := by
  dsimp only [readWord]
  rw [if_neg later, latched]
  exact if_pos holds

theorem ChannelTable.readWord_live {t : ChannelTable} {k : Nat} (later : k % 8 ≠ 0)
    (other : ∀ l, t.latch = some l → l.channel ≠ k / 8) :
    t.readWord k = (t.entry (k / 8)).word (k % 8) := by
  dsimp only [readWord]
  rw [if_neg later]
  split
  · rename_i l latched
    exact if_neg (other l latched)
  · rfl

/-- Settles O34: the word driven is `tableWord`, and `atIndex` empties the latch. -/
theorem tableReadStepsAndLatches : Obligations.TableReadStepsAndLatches := by
  intro s released k c e read
  have inside {sp : Space} (space : s.host.tspace = sp) (small : k < sp.words) {w : Word}
      (word : s.tableWord sp k = w) :
      exec .tdataRead s = .next (read w (latchFor sp k s.chan).latch) := by
    have chan := (latchFor sp k s.chan).atIndex_eq (k + 1)
    rw [latchFor_entries] at chan
    rw [exec_tdataRead_inside released (space ▸ small), space, word]
    exact congrArg (fun t : ChannelTable => Host.Outcome.next { s with
      host := { s.host with tindex := k + 1, dataBus := some w }, chan := t }) chan
  have latches (first : k % 8 = 0) :
      (latchFor .channels k s.chan).latch = some { channel := c, words := e.words } := by
    rw [latchFor, ChannelTable.latchAtRead, if_pos first]
  have keeps (later : k % 8 ≠ 0) : (latchFor .channels k s.chan).latch = s.chan.latch := by
    rw [latchFor, ChannelTable.latchAtRead, if_neg later]
  refine ⟨fun beyond => exec_tdataRead_beyond released beyond, fun small other => ?_,
    fun small space first => ?_, fun small space later =>
      ⟨fun l latched holds => ?_, fun others => ?_⟩⟩
  · cases space : s.host.tspace
    case channels => exact absurd space other
    all_goals exact inside space (space ▸ small) rfl
  · rw [inside space small (ChannelTable.readWord_zero first), latches first]
  · rw [inside space small (ChannelTable.readWord_latched later latched holds), keeps later]
  · rw [inside space small (ChannelTable.readWord_live later others), keeps later]

/-! ### The words of an entry and of the summary (Table 12-4) -/

theorem placed_getLsbD (n i j : Nat) :
    (placed n i).getLsbD j = (decide (j < 16) && (decide (i ≤ j) && n.testBit (j - i))) := by
  rw [placed, BitVec.getLsbD_shiftLeft, BitVec.getLsbD_ofNat]
  by_cases inWord : j < 16
  · have : j - i < 16 := by omega
    by_cases low : j < i <;> simp [inWord, this, low, Nat.not_le.2, Nat.not_lt.1]
  · simp [inWord]

theorem placedBit_getLsbD (b : Bool) {i : Nat} (inWord : i < 16) (j : Nat) :
    (placedBit b i).getLsbD j = (decide (j = i) && b) := by
  rw [placedBit_eq, placed_getLsbD]
  cases b
  · simp
  · have same : (j < 16 ∧ i ≤ j ∧ j - i = 0) ↔ j = i := by omega
    have one : Nat.testBit 1 (j - i) = decide (j - i = 0) :=
      Bool.eq_iff_iff.2 (by rw [Nat.testBit_one_eq_true_iff_self_eq_zero, decide_eq_true_eq])
    rw [Bool.toNat_true, one, ← Bool.decide_and, ← Bool.decide_and, Bool.and_true,
      decide_eq_decide]
    exact same

/-- The bits that an ascending fold of placed bits sets. -/
theorem foldl_placedBit_getLsbD (f : Nat → Bool) {n : Nat} (inWord : n ≤ 16) (j : Nat) :
    ((List.range n).foldl (fun acc b => acc ||| placedBit (f b) b) (0 : Word)).getLsbD j
      = (decide (j < n) && f j) := by
  induction n with
  | zero => simp
  | succ n ih =>
    rw [List.range_succ, List.foldl_append, List.foldl_cons, List.foldl_nil, BitVec.getLsbD_or,
      ih (by omega), placedBit_getLsbD _ (by omega)]
    by_cases last : j = n
    · simp [last]
    · have : j < n + 1 ↔ j < n := by omega
      simp [last, this]

theorem ChannelEntry.word_zero (e : ChannelEntry) :
    e.word 0 = (placedBit e.enable 0 ||| placedBit e.notify 1 ||| placed e.profile.toNat 4
      ||| placedBit e.valid 8 ||| placedBit e.available 9 ||| placedBit e.overrun 10
      ||| placedBit e.parity 11) := rfl

/-- Settles O35: the fields at their places, bit by bit. -/
theorem channelWordsShowTheEntry : Obligations.ChannelWordsShowTheEntry := by
  refine ⟨fun e => ⟨fun b inWord => ?_, ?_, rfl, rfl, rfl, rfl, fun none => ?_, fun h held => ?_⟩,
    fun t k b _ inWord => ?_⟩
  · have profile : (placed e.profile.toNat 4).getLsbD b
        = (decide (4 ≤ b ∧ b ≤ 7) && e.profile.getLsbD (b - 4)) := by
      rw [placed_getLsbD, BitVec.testBit_toNat]
      by_cases above : 7 < b
      · rw [BitVec.getLsbD_of_ge _ _ (show 4 ≤ b - 4 by omega)]
        simp
      · simp [inWord, Nat.not_lt.1 above]
    have mark (x : Bool) (i : Nat) (small : i < 16) := placedBit_getLsbD x small b
    rw [ChannelEntry.word_zero]
    simp only [BitVec.getLsbD_or, profile]
    rw [mark _ 0 (by decide), mark _ 1 (by decide), mark _ 8 (by decide), mark _ 9 (by decide),
      mark _ 10 (by decide), mark _ 11 (by decide)]
  · show e.value.extractLsb' 16 16 ++ e.value.extractLsb' 0 16 = e.value
    exact (BitVec.extractLsb'_append_extractLsb'_eq_extractLsb' (start₁ := 0) (len₁ := 16) rfl).trans
      BitVec.extractLsb'_eq_self
  · simp [ChannelEntry.word, none]
  · have word : e.word 7 = (placedBit true 15 ||| placedBit h.failed 14
        ||| placed (bitField h.raw 0 14) 0) := by
      simp [ChannelEntry.word, held]
    have mask : placed (2 ^ 14 - 1) 0 = 0x3FFF := by decide
    rw [word, placed_bitField, mask]
    cases h.failed <;> rfl
  · exact (foldl_placedBit_getLsbD _ le_rfl b).trans (by simp [inWord])

/-! ### The Capture Unit (R122, R125 to R127) -/

/-- Settles O36: `CaptureUnit.write` on the register's eight bits. -/
theorem captureWriteLoadsTheCountdown : Obligations.CaptureWriteLoadsTheCountdown := by
  intro s w released
  rw [exec_released _ s released, ← bitField_channel w]
  rfl

/-- Three fields that do not meet, put into a word. -/
theorem placed_three {a b c lo hi : Nat} (first : a < 2 ^ lo) (second : a + 2 ^ lo * b < 2 ^ hi) :
    placed a 0 ||| placed b lo ||| placed c hi = BitVec.ofNat 16 (a + 2 ^ lo * b + 2 ^ hi * c) := by
  rw [placed_eq, placed_eq, placed_eq, pow_zero, mul_one, ofNat_or_add _ _ _ first,
    ofNat_or_add _ _ _ second]

theorem header_frame (coast : Bool) {length : Nat} (short : length < 1024) :
    header .frame coast false false length
      = BitVec.ofNat 16 (0x4000 + (if coast then 0x1000 else 0) + length) := by
  have fields := placed_three (a := length) (b := coast.toNat) (c := 2) (lo := 12) (hi := 13)
    (by omega) (by cases coast <;> simp <;> omega)
  have swapped : header .frame coast false false length
      = placed length 0 ||| placed coast.toNat 12 ||| placed 2 13 := by
    have clear (i : Nat) : placedBit false i = 0#16 := rfl
    rw [header, placedBit_eq coast, clear, clear, BitVec.or_zero, BitVec.or_zero, BitVec.or_comm,
      BitVec.or_comm (placed RecordKind.frame.code 13), ← BitVec.or_assoc]
    rfl
  rw [swapped, fields]
  cases coast <;> congr 1 <;> simp <;> omega

/-- Word 2 of a FRAME record: phase, COAST and the slip offset in three bits (Table 12-5). -/
theorem frameRecord_marks {phase : Option Nat} (small : ∀ p, phase = some p → p < 256) (coast : Bool)
    (slip : Int) :
    (phaseByte phase).setWidth 16 ||| placedBit coast 8 ||| ((BitVec.ofInt 3 slip).setWidth 16 <<< 12)
      = BitVec.ofNat 16 (phase.getD 0xFF + (if coast then 0x100 else 0) + (slip % 8).toNat * 0x1000) := by
  have byte : phase.getD 0xFF < 2 ^ 8 := by
    cases known : phase with
    | none => decide
    | some p => exact small p known
  have phaseIs : (phaseByte phase).setWidth 16 = placed (phase.getD 0xFF) 0 := by
    rw [placed_eq, pow_zero, mul_one]
    cases known : phase with
    | none => rfl
    | some p =>
      apply BitVec.eq_of_toNat_eq
      have := small p known
      simp [phaseByte]
      omega
  have slipIs : (BitVec.ofInt 3 slip).setWidth 16 <<< 12 = placed (slip % 8).toNat 12 := by
    rw [placed]
    congr 1
    apply BitVec.eq_of_toNat_eq
    have := Int.emod_nonneg slip (show (8 : Int) ≠ 0 by decide)
    simp [BitVec.toNat_ofInt]
  rw [phaseIs, slipIs, placedBit_eq, placed_three byte (by cases coast <;> simp <;> omega)]
  cases coast <;> congr 1 <;> simp <;> omega

/-- Settles O37: the capture appends, and at word WPF its record is `frameRecord`. -/
theorem captureGathersAndOffersItsFrame : Obligations.CaptureGathersAndOffersItsFrame := by
  intro u last flag raw
  refine ⟨fun none => ?_, fun c current => ?_⟩
  · obtain ⟨every, countdown, _, abandoned⟩ := u
    obtain rfl := none
    cases last <;> exact ⟨rfl, rfl⟩
  intro words
  refine ⟨?_, ?_⟩
  · rintro rfl
    rw [CaptureUnit.frameOffered, CaptureUnit.wordComplete, current]
    exact ⟨rfl, rfl⟩
  · rintro rfl
    rw [CaptureUnit.frameOffered, CaptureUnit.wordComplete, current]
    have appended : c.append flag raw = { c with buffer := words } := rfl
    dsimp only
    rw [appended]
    refine ⟨rfl, fun empty => ?_, fun filled short _ phase => ?_⟩
    · exact if_neg (by simp [empty])
    · rw [if_pos (by simp [filled]), frameRecord,
        header_frame _ (by show 4 + words.length < 1024; omega), frameRecord_marks phase]

end Sys2Proof.Machine
end

section
/-! PROOF. The Record Queue's admission and reading side (R134, R139 to R145) and the Record Output Port
(R151 to R157). -/

namespace Sys2Proof.Machine

/-! ### The route (R144, R145, R151) -/

theorem settleRoute_same {s : State} (same : s.queue.requested = s.queue.active) :
    settleRoute s = s :=
  settleRoute_waits s (Bool.eq_false_iff.2 fun takes => (s.queue.takesRoute_iff.1 takes).1 same)

theorem settleRoute_touched {s : State}
    (touched : ¬ (s.queue.store = [] ∨ (s.queue.consumed = 0 ∧ s.queue.begun = false))) :
    settleRoute s = s :=
  settleRoute_waits s (Bool.eq_false_iff.2 fun takes => touched (s.queue.takesRoute_iff.1 takes).2)

theorem settleRoute_toPort {s : State} (requested : s.queue.requested = .port)
    (active : s.queue.active = .host)
    (whole : s.queue.store = [] ∨ (s.queue.consumed = 0 ∧ s.queue.begun = false)) :
    settleRoute s = { s with
      queue := { s.queue with active := .port }
      port := { s.port with mode := if s.queue.store = [] then .idle else .sending
                            clk := some s.port.portDiv } } := by
  have takes := s.queue.takesRoute_iff.2 ⟨by simp [requested, active], whole⟩
  rw [settleRoute_takes s takes, requested, OutputPort.routed, OutputPort.leaveOff]
  simp only [decide_eq_true_eq]

theorem settleRoute_toHost {s : State} (requested : s.queue.requested = .host)
    (active : s.queue.active = .port)
    (whole : s.queue.store = [] ∨ (s.queue.consumed = 0 ∧ s.queue.begun = false)) :
    settleRoute s = { s with
      queue := { s.queue with active := .host }
      port := { s.port with mode := .off, inFlight := none, stall := .stopped, stallExpired := false
                            clk := none, frm := false, dat := false } } := by
  have takes := s.queue.takesRoute_iff.2 ⟨by simp [requested, active], whole⟩
  rw [settleRoute_takes s takes, requested]
  rfl

/-! ### Admission (R134, R135) -/

/-- Settles O38: an admitted offer is `RecordQueue.behind` with the pending-gap count cleared. -/
theorem admissionAppendsTheWholeRecord : Obligations.AdmissionAppendsTheWholeRecord := by
  intro r s safe record gap words fits
  obtain ⟨agree, -⟩ := s.outputSafe_iff.1 safe
  have sound := agree.sound
  have newWords : ((gap ++ [r]).map List.length).sum = words := by simp [words]
  have gapWords : (gap.map List.length).sum = if s.queue.gapPending = 0 then 0 else 2 := by
    simp only [gap]
    split <;> rfl
  have room : s.queue.admits r.length = true := by
    rw [RecordQueue.admits, decide_eq_true_eq, Config.storeWords, Nat.add_assoc, ← gapWords]
    exact fits
  have store : s.queue.store
      ++ (if s.queue.gapPending = 0 then [r] else [gapRecord s.queue.gapPending, r])
      = s.queue.store ++ gap ++ [r] := by
    rw [List.append_assoc]
    simp only [gap]
    split <;> rfl
  have offered := offer_admitted r s room
  rw [store] at offered
  refine ⟨offered, ?_, ?_, fun some => ?_, fun empty => ?_⟩
  · rw [offered, ← newWords, ← sound.count_behind (gap ++ [r]), RecordQueue.behind, ← List.append_assoc]
    rfl
  · rw [offered]
    simp [RecordQueue.records, Nat.add_assoc]
  · have head : (offer r s).queue.head = s.queue.head := by
      rw [offered, ← RecordQueue.head_behind some (gap ++ [r]), RecordQueue.behind,
        ← List.append_assoc]
      rfl
    refine ⟨head, ?_, ?_⟩
    · rw [RecordQueue.headRemain, head, offer_queue_consumed, RecordQueue.headRemain]
    · rw [RecordQueue.untouched, offer_queue_consumed, offer_queue_begun, RecordQueue.untouched]
  · have consumed : s.queue.consumed = 0 := sound.2.2.1 empty
    have notBegun : s.queue.begun = false := by
      cases begun : s.queue.begun with
      | false => rfl
      | true => exact absurd empty (agree.busy (agree.begun begun))
    refine ⟨?_, ?_⟩
    · simp [RecordQueue.untouched, consumed, notBegun]
    · rw [offered]
      simp only [RecordQueue.headRemain, RecordQueue.head, empty, gap, consumed]
      split <;> rfl

/-! ### The HOST route (R139 to R141) -/

theorem RecordQueue.nextWord_cons {q : RecordQueue} {record : Rec} {rest : List Rec}
    (store : q.store = record :: rest) : q.nextWord = (record[q.consumed]?).getD 0 := by
  rw [nextWord, head, store]
  rfl

theorem RecordQueue.lastWord_cons {q : RecordQueue} {record : Rec} {rest : List Rec}
    (store : q.store = record :: rest) :
    q.lastWord = decide (record.length ≤ q.consumed + 1) := by
  rw [lastWord, head, store]
  rfl

/-- A word inside the head record is consumed alone. -/
theorem RecordQueue.consume_inside {q : RecordQueue} {record : Rec} {rest : List Rec}
    (store : q.store = record :: rest) (more : q.consumed + 1 < record.length) :
    q.consume = { q with consumed := q.consumed + 1 } :=
  consume_more (by rw [lastWord_cons store]; exact decide_eq_false (Nat.not_le.2 more))

/-- The last word of the head record takes the record with it. -/
theorem RecordQueue.consume_end {q : RecordQueue} {record : Rec} {rest : List Rec}
    (store : q.store = record :: rest) (last : q.consumed + 1 = record.length) :
    q.consume = { q with store := rest, consumed := 0, begun := false } := by
  rw [consume_last (by rw [lastWord_cons store]; exact decide_eq_true last.ge), skip, store]
  rfl

/-- The state with the head record gone and `rest` left of the store. -/
def State.popped (rest : List Rec) (s : State) : State :=
  { s with queue := { s.queue with store := rest, consumed := 0, begun := false } }

/-- Settles O41: a pop is `RecordQueue.consume` and `settleRoute`. -/
theorem qdataPopsOrRefuses : Obligations.QdataPopsOrRefuses := by
  intro s released safe driven
  have read := exec_released .qdataRead s released
  rw [effectOf, readQdata, RecordQueue.qdata] at read
  refine ⟨fun refuses => ?_, fun record rest active store => ?_⟩
  · have refused : s.queue.pops = false := by
      rcases refuses with h | h <;> simp [RecordQueue.pops, h]
    rw [read, refused]
    rfl
  intro word
  have pops : s.queue.pops = true := by simp [RecordQueue.pops, active, store]
  have popped : exec .qdataRead s
      = .next (driven word (settleRoute { s with queue := s.queue.consume })) := by
    rw [read, pops, if_pos rfl, if_pos rfl, RecordQueue.nextWord_cons store]
    rfl
  refine ⟨fun more => ?_, fun last => ⟨fun same => ?_, fun requested => ?_⟩⟩
  · rw [popped, RecordQueue.consume_inside store more, settleRoute_touched (by simp [store])]
  · rw [popped, RecordQueue.consume_end store last]
    exact congrArg (fun t => Host.Outcome.next (driven word t))
      (settleRoute_same (s := s.popped rest) (same.trans active.symm))
  · rw [popped, RecordQueue.consume_end store last]
    exact congrArg (fun t => Host.Outcome.next (driven word t))
      (settleRoute_toPort (s := s.popped rest) requested active (.inr ⟨rfl, rfl⟩))

/-- The state with the queue flushed and the port at rest, before a route change (R143, R157). -/
def State.flushed (s : State) : State := { s with queue := s.queue.flush, port := s.port.flushed }

/-- Settles O42: both commands clear the head's progress before the route settles. -/
theorem flushAndSkipRemoveRecords : Obligations.FlushAndSkipRemoveRecords := by
  intro s released answer cut emptied still
  have flush : exec .qflush s = .next (answer 0x06 .accepted (settleRoute s.flushed)) :=
    exec_released _ s released
  have skip : exec .skipRecord s = .next (if s.queue.refusesSkip then answer 0x07 .refusedState s
      else answer 0x07 .accepted (settleRoute (s.popped s.queue.store.tail))) := by
    rw [exec_released _ s released, effectOf, skipCmd, answered_refuseIf]
    rfl
  have accepts (active : s.queue.active = .host) (some : s.queue.store ≠ []) :
      exec .skipRecord s = .next (answer 0x07 .accepted (settleRoute (s.popped s.queue.store.tail))) := by
    rw [skip, if_neg (by simp [RecordQueue.refusesSkip, active, some])]
  refine ⟨fun same => ?_, fun requested active => ?_, fun requested active => ?_,
    fun refuses => ?_, fun active some requested => ?_, fun active some requested => ?_⟩
  · rw [flush, settleRoute_same (s := s.flushed) same]
    rfl
  · rw [flush, settleRoute_toHost (s := s.flushed) requested active (.inl rfl)]
    rfl
  · rw [flush, settleRoute_toPort (s := s.flushed) requested active (.inl rfl)]
    rfl
  · have refused : s.queue.refusesSkip = true := by
      rcases refuses with h | h <;> simp [RecordQueue.refusesSkip, h]
    rw [skip, refused]
    rfl
  · rw [accepts active some,
      settleRoute_same (s := s.popped s.queue.store.tail) (requested.trans active.symm)]
    rfl
  · rw [accepts active some,
      settleRoute_toPort (s := s.popped s.queue.store.tail) requested active (.inr ⟨rfl, rfl⟩)]
    rfl

/-! ### Writes to ROUTE and PORT_CONFIG (R144, R156) -/

theorem bitField_low (w : Word) : bitField w 0 8 = w.toNat % 256 := bitField_channel w

theorem bitField_high (w : Word) : bitField w 8 8 = w.toNat / 256 := by
  rw [bitField_eq, Nat.mod_eq_of_lt (by have := w.isLt; omega)]
  rfl

/-- Only a pause whose timer has not expired restarts the timer at a PORT_CONFIG write (R156). -/
theorem OutputPort.configure_stall (p : OutputPort) (div stallMs : Nat) :
    (p.configure div stallMs).stall
      = if p.mode ≠ .paused ∨ p.stallExpired = true then p.stall
        else if stallMs = 0 then .stopped else .running 0 := by
  by_cases paused : p.mode = .paused <;> cases expired : p.stallExpired <;>
    simp [configure, stallStart, paused, expired]

/-- The state with a route requested, before a route change (R144). -/
def State.asking (route : Route) (s : State) : State :=
  { s with queue := { s.queue with requested := route } }

/-- Settles O43: the write asks for the route, and `settleRoute` takes it over a whole head. -/
theorem routeAndPortConfigWrites : Obligations.RouteAndPortConfigWrites := by
  intro s w released asked whole
  have route : exec (.routeWrite w) s = .next (settleRoute (s.asking asked)) :=
    exec_released _ s released
  refine ⟨fun waits => ?_, fun isPort active isWhole => ?_, fun isHost active isWhole => ?_, ?_⟩
  · rw [route]
    rcases waits with same | touched
    · rw [settleRoute_same (s := s.asking asked) same]
      rfl
    · rw [settleRoute_touched (s := s.asking asked) touched]
      rfl
  · rw [route, isPort, settleRoute_toPort (s := s.asking .port) rfl active isWhole]
    rfl
  · rw [route, isHost, settleRoute_toHost (s := s.asking .host) rfl active isWhole]
    rfl
  · rw [exec_released _ s released, effectOf, writePortConfig, bitField_low, bitField_high,
      ← s.port.configure_stall (w.toNat % 256) (w.toNat / 256)]
    rfl

/-! ### The port's edges (R152 to R155) -/

theorem exec_portStallExpiry {s : State} (released : s.resetAsserted = false) :
    exec .portStallExpiry s = .next (if s.stallExpires then portStalled s else s) :=
  exec_released _ s released

/-- Settles O44: `beginRecord`, `OutputPort.pause` and `portStalled`. -/
theorem portBeginsPausesAndStalls : Obligations.PortBeginsPausesAndStalls := by
  intro s released word begun
  refine ⟨fun sending notBegun => ⟨?_, ?_⟩, fun paused => ⟨?_, ?_⟩, fun early => ?_,
    fun e elapsed due => ?_⟩
  · rw [exec_released _ s released, effectOf, portBegin, if_pos ⟨sending, notBegun⟩]
    rfl
  · rw [exec_released _ s released, effectOf, portBegin, if_pos ⟨sending, notBegun⟩]
    rfl
  · rw [exec_released _ s released, effectOf, endPause, if_pos paused]
    rfl
  · exact exec_portStallExpiry (s := begun) released
  · rw [exec_portStallExpiry released, if_neg]
    rw [State.stallExpires_iff]
    rintro ⟨e, elapsed, due⟩
    exact absurd (early e elapsed) (Nat.not_lt.2 due)
  · rw [exec_portStallExpiry released, if_pos (s.stallExpires_iff.2 ⟨e, elapsed, due⟩)]
    rfl

/-- The state at the end of the head record's last word, before a route change (R153). -/
def State.recordEnded (rest : List Rec) (s : State) : State :=
  { s.popped rest with port := s.port.endRecord (decide (rest = [])) }

/-- Settles O45: the bits of `portBit`, and the two ends of `portBoundary`. -/
theorem portSendsWordByWord : Obligations.PortSendsWordByWord := by
  intro s record rest rdy released store sending begun word
  have boundary (flight : s.port.inFlight = some 15) : exec (.portWordBoundary rdy) s
      = .next (if s.queue.lastWord then endHead s else nextInRecord rdy s) := by
    rw [exec_released _ s released, effectOf, portBoundary,
      if_pos (s.atBoundary_iff.2 ⟨sending, begun, flight⟩)]
  refine ⟨fun n more flight => ?_, fun flight more => ?_, fun flight last => ?_⟩
  · rw [exec_released _ s released, effectOf, portBit, flight]
    dsimp only
    rw [if_pos ⟨sending, more⟩, RecordQueue.nextWord_cons store]
    rfl
  · intro popped
    have inside : s.queue.lastWord = false := by
      rw [RecordQueue.lastWord_cons store]
      exact decide_eq_false (Nat.not_le.2 more)
    rw [boundary flight, inside, if_neg nofun, nextInRecord, RecordQueue.consume_inside store more,
      RecordQueue.nextWord_cons (q := { s.queue with consumed := s.queue.consumed + 1 }) store]
    cases rdy <;> rfl
  · intro removed
    have ends : s.queue.lastWord = true := by
      rw [RecordQueue.lastWord_cons store]
      exact decide_eq_true last.ge
    have ended : exec (.portWordBoundary rdy) s = .next (settleRoute (s.recordEnded rest)) := by
      rw [boundary flight, ends, if_pos rfl, endHead, RecordQueue.consume_end store last]
      rfl
    refine ⟨fun same => ?_, fun requested active => ?_⟩
    · rw [ended, settleRoute_same (s := s.recordEnded rest) same, State.recordEnded,
        OutputPort.endRecord]
      simp only [decide_eq_true_eq]
      rfl
    · rw [ended, settleRoute_toHost (s := s.recordEnded rest) requested active (.inr ⟨rfl, rfl⟩)]
      rfl

end Sys2Proof.Machine
end

section
/-! PROOF. Status bits, the interrupt line and its registers (R161 to R167, R171, R177), TSPACE and TINDEX
(R174), and START, STOP and SOFT_RESET (R13 to R15, R181). -/

namespace Sys2Proof.Machine

/-! ### Host errors and the bits written as 1 (R162, R171, R177) -/

theorem cleared_getLsbD {n : Nat} (bits : BitVec n) (w : Word) {b : Nat} (hb : b < n) :
    (bits &&& ~~~ w.setWidth n).getLsbD b = (bits.getLsbD b && !w.getLsbD b) := by
  simp [hb]

/-- Settles O46: `hostError`, the masks in their order, and the two clearing writes. -/
theorem hostErrorsSetStatusAndOnesClearIt : Obligations.HostErrorsSetStatusAndOnesClearIt := by
  refine ⟨fun e s => ?_, by decide, fun s w released => ⟨⟨_, exec_released _ s released, fun b hb => ?_,
    rfl, rfl⟩, ⟨_, exec_released _ s released, fun b hb => ?_, rfl⟩⟩⟩
  · have first : some (s.host.errCode.getD e) = match s.host.errCode with
        | none => some e
        | some first => some first := by
      cases s.host.errCode <;> rfl
    rw [hostError, first, stopInc_eq_stopAdd_one]
    rfl
  · exact cleared_getLsbD s.ev.latched w hb
  · exact cleared_getLsbD s.ev.hits w hb

/-! ### Level status and the interrupt line (R163 to R166) -/

theorem levelBit_getLsbD (b : Bool) {i : Nat} (hi : i < 6) (j : Nat) :
    (levelBit b i).getLsbD j = (decide (j = i) && b) := by
  cases b
  · simp [levelBit]
  · simp only [levelBit, if_true, BitVec.getLsbD_twoPow, hi, decide_true, Bool.true_and, Bool.and_true,
      eq_comm]

theorem State.levelStatus_getLsbD (s : State) (j : Nat) :
    s.levelStatus.getLsbD j
      = ((decide (j = 0) && decide (s.queue.threshold < s.queue.count))
        || (decide (j = 1) && decide (s.queue.count = 0)) || (decide (j = 2) && s.clock.present)
        || (decide (j = 3) && s.fs.sync.inLock) || (decide (j = 4) && decide (s.sf.state = .lock))
        || (decide (j = 5) && decide (s.ev.hits ≠ 0))) := by
  have mark (b : Bool) (i : Nat) (hi : i < 6) := levelBit_getLsbD b hi j
  rw [levelStatus]
  simp only [BitVec.getLsbD_or]
  rw [mark _ 0 (by decide), mark _ 1 (by decide), mark _ 2 (by decide), mark _ 3 (by decide),
    mark _ 4 (by decide), mark _ 5 (by decide)]

/-- Two words meet in a bit that both have set. -/
theorem and_ne_zero_iff {n : Nat} (x y : BitVec n) :
    x &&& y ≠ 0 ↔ ∃ b, x.getLsbD b = true ∧ y.getLsbD b = true := by
  constructor
  · intro meet
    by_contra apart
    refine meet (BitVec.eq_of_getLsbD_eq fun b _ => ?_)
    simp only [not_exists, not_and] at apart
    cases hx : x.getLsbD b with
    | false => simp [hx]
    | true => simp [hx, apart b hx]
  · rintro ⟨b, hx, hy⟩ zero
    have bit := congrArg (BitVec.getLsbD · b) zero
    simp [hx, hy] at bit

theorem State.lineActive_iff (s : State) :
    s.lineActive = true ↔ s.ev.masterEnable = true
      ∧ ((∃ b, s.ev.latched.getLsbD b = true ∧ s.ev.latchedEnable.getLsbD b = true)
        ∨ ∃ b, s.levelStatus.getLsbD b = true ∧ s.ev.levelEnable.getLsbD b = true) := by
  rw [lineActive, Bool.and_eq_true, Bool.or_eq_true, decide_eq_true_eq, decide_eq_true_eq,
    and_ne_zero_iff, and_ne_zero_iff]

theorem State.intPin_released {s : State} (released : s.resetAsserted = false) :
    s.intPin = if s.lineActive then s.ev.polarity.level true
      else match s.ev.drive with
        | .openDrain => .released
        | .pushPull => s.ev.polarity.level false :=
  if_neg (by simp [released])

theorem Polarity.level_eq (p : Polarity) :
    p.level true = (if p = .activeLow then .low else .high)
      ∧ p.level false = if p = .activeLow then .high else .low := by
  cases p <;> exact ⟨rfl, rfl⟩

/-- Settles O47: the line by its bits, the pin by the line, and the registers as they stand. -/
theorem interruptLineFollowsEnabledStatus : Obligations.InterruptLineFollowsEnabledStatus := by
  intro s rdy
  have level := s.levelStatus_getLsbD
  refine ⟨by rw [level]; simp, by rw [level]; simp, by rw [level]; simp,
    by rw [level]; simp [SyncState.inLock], by rw [level]; simp, by rw [level]; simp, s.lineActive_iff, fun released => ?_⟩
  have pin := State.intPin_released released
  have read (addr : BitVec 6) := readRegister_released rdy addr s released
  refine ⟨fun active => ?_, fun inactive drive => ?_, fun inactive drive => ?_, read 0x30, read 0x31,
    read 0x32, read 0x33, ⟨_, read 0x34, fun b inWord => ?_⟩, read 0x35⟩
  · rw [pin, active, if_pos rfl, s.ev.polarity.level_eq.1]
  · rw [pin, inactive, if_neg nofun, drive]
  · rw [pin, inactive, if_neg nofun, drive]
    exact s.ev.polarity.level_eq.2
  · have word : s.registerWord rdy 0x34 = (placedBit s.ev.masterEnable 0
        ||| placedBit (s.ev.polarity = .activeHigh) 1 ||| placedBit (s.ev.drive = .pushPull) 2
        ||| placedBit s.lineActive 15) := rfl
    have mark (x : Bool) (i : Nat) (hi : i < 16) := placedBit_getLsbD x hi b
    rw [word]
    simp only [BitVec.getLsbD_or]
    rw [mark _ 0 (by decide), mark _ 1 (by decide), mark _ 2 (by decide), mark _ 15 (by decide)]

/-! ### TSPACE and TINDEX (R174) -/

theorem Space.ofCode_code (sp : Space) : Space.ofCode sp.code = some sp := by cases sp <;> rfl

theorem Space.ofCode_beyond {n : Nat} (beyond : 9 ≤ n) : Space.ofCode n = none :=
  match n, beyond with
  | _ + 9, _ => rfl

/-- Settles O48: the space by its code, and `atIndex` on the latch. -/
theorem tableAddressWrites : Obligations.TableAddressWrites := by
  intro s w released emptied
  have code : bitField w 0 4 = w.toNat % 16 := by simp [bitField_eq]
  have index : bitField w 0 12 = w.toNat % 4096 := by simp [bitField_eq]
  refine ⟨fun sp names => ?_, fun beyond => ?_, ?_⟩
  · rw [exec_released _ s released, effectOf, writeTspace, code, names, Space.ofCode_code]
    rfl
  · rw [exec_released _ s released, effectOf, writeTspace, code, Space.ofCode_beyond beyond]
    rfl
  · rewrite [exec_released _ s released, effectOf, writeTindex, index, setIndex, ChannelTable.atIndex_eq]
    rfl

/-! ### START, STOP, SOFT_RESET -/

theorem Format.comparedBits_eq (f : Format) :
    f.comparedBits = ((Finset.range f.syncLen).filter fun i => f.syncMask.getLsbD i = true).card := by
  rw [card_filter_range, comparedBits]
  exact List.countP_congr fun i _ => by simp

/-- Settles O50: the cross-checks of `startChecks`, and `enterRun`. -/
theorem startChecksTheFormatThenRuns : Obligations.StartChecksTheFormatThenRuns := by
  intro s released f compared passes answer
  have checks : f.startChecks = true ↔ passes := by
    rw [Format.startChecks, f.comparedBits_eq, Format.sfidModulus]
    simp only [Bool.and_eq_true, Bool.or_eq_true, decide_eq_true_eq]
    constructor
    · rintro ⟨⟨⟨search, check⟩, lock⟩, sfid⟩
      refine ⟨search, check, lock, fun deep => ?_⟩
      obtain flat | ⟨⟨⟨position, field⟩, phases⟩, base⟩ := sfid
      · omega
      · exact ⟨position, field, phases, base⟩
    · rintro ⟨search, check, lock, sfid⟩
      refine ⟨⟨⟨search, check⟩, lock⟩, (Nat.lt_or_ge 1 f.depth).symm.imp id fun deep => ?_⟩
      obtain ⟨position, field, phases, base⟩ := sfid deep
      exact ⟨⟨⟨position, field⟩, phases⟩, base⟩
  have start := exec_released .start s released
  rw [effectOf, startCmd] at start
  refine ⟨fun running => ?_, fun idle fails => ?_, fun idle isSound => ?_⟩
  · rw [start, if_pos running]
    rfl
  · rw [start, if_neg (by simp [idle]), if_neg (mt checks.1 fails)]
    rfl
  · rw [start, if_neg (by simp [idle]), if_pos (checks.2 isSound)]
    rfl

/-- Settles O51: `leaveRun` interrupts the frame and takes the pending swap. -/
theorem stopReturnsToRest : Obligations.StopReturnsToRest := by
  intro s released answer rested
  have stop : exec .stop s = .next (if decide (s.run = .idle) then answer s .refusedState
      else answer (takePendingSwap rested) .accepted) := by
    rw [exec_released _ s released, effectOf, stopCmd, answered_refuseIf]
    rfl
  have running (h : s.run = .run) : exec .stop s = .next (answer (takePendingSwap rested) .accepted) := by
    rw [stop, if_neg (by simp [h])]
  refine ⟨fun idle => ?_, fun run quiet => ?_, fun run pending => ?_⟩
  · rw [stop, if_pos (by simp [idle])]
  · have noSwap : rested.map.isPending = false := decide_eq_false quiet
    rw [running run, takePendingSwap, noSwap]
    rfl
  · have swaps : rested.map.isPending = true := decide_eq_true pending
    have ⟨n, hand⟩ := handEvents_swap s.map s.fs.fsn { rested with map := s.map.swapped }
    refine ⟨n, ?_⟩
    rw [running run, takePendingSwap, swaps, if_pos rfl]
    exact congrArg (fun t => Host.Outcome.next (answer t .accepted)) hand

/-- Settles O53: `softReset` states what is kept, and the entries keep their configuration. -/
theorem softResetKeepsTheConfiguration : Obligations.SoftResetKeepsTheConfiguration := by
  intro s released canonical
  obtain ⟨-, -, -, entries, -⟩ := canonical
  refine ⟨_, exec_released _ s released, fun c => ?_, rfl, ?_⟩
  · exact Memory.read_mapAll ({} : ChannelEntry) ChannelEntry.clearDynamic rfl _ entries c
  · show answered 0x0A (.accepted, softReset s) = _
    simp only [answered, softReset, released]
    rfl

end Sys2Proof.Machine
end

section
/-! PROOF. The frame format registers at the bus (R3 to R5, R11, R182, R183; Table 12-1). -/

namespace Sys2Proof.Machine

/-! ### Words made of fields -/

theorem placed_zero (n : Nat) : placed n 0 = BitVec.ofNat 16 n := by simp [placed_eq]

theorem ofNat_or_placed {a lo : Nat} (below : a < 2 ^ lo) (b : Nat) :
    BitVec.ofNat 16 a ||| placed b lo = BitVec.ofNat 16 (a + 2 ^ lo * b) := by
  rw [placed_eq, ofNat_or_add _ _ _ below]

theorem ofNat_or_placedBit {a lo : Nat} (below : a < 2 ^ lo) (b : Bool) :
    BitVec.ofNat 16 a ||| placedBit b lo = BitVec.ofNat 16 (a + if b then 2 ^ lo else 0) := by
  rw [placedBit_eq, ofNat_or_placed below]
  cases b <;> simp

/-! ### The words of a 48-bit register (R183) -/

theorem word48_toNat (v : BitVec 48) (k : Nat) :
    (word48 v k).toNat = v.toNat / 2 ^ (16 * (2 - k)) % 2 ^ 16 := by
  rw [word48, BitVec.extractLsb'_toNat, Nat.shiftRight_eq_div_pow]

theorem word48_eq (v : BitVec 48) (k : Nat) :
    word48 v k = BitVec.ofNat 16 (v.toNat / 2 ^ (16 * (2 - k))) := by
  apply BitVec.eq_of_toNat_eq
  rw [word48_toNat, BitVec.toNat_ofNat]

theorem toNat_append_eq_add {m n : Nat} (x : BitVec m) (y : BitVec n) :
    (x ++ y).toNat = 2 ^ n * x.toNat + y.toNat := by
  rw [BitVec.toNat_append, Nat.shiftLeft_eq, mul_comm, Nat.two_pow_add_eq_or_of_lt y.isLt]

theorem setWord48_toNat (v : BitVec 48) (w : Word) :
    (setWord48 v 0 w).toNat = 2 ^ 32 * w.toNat + v.toNat % 2 ^ 32
      ∧ (setWord48 v 1 w).toNat
        = 2 ^ 32 * (v.toNat / 2 ^ 32) + 2 ^ 16 * w.toNat + v.toNat % 2 ^ 16
      ∧ (setWord48 v 2 w).toNat = 2 ^ 16 * (v.toNat / 2 ^ 16) + w.toNat := by
  have bits (lo len : Nat) : (v.extractLsb' lo len).toNat = v.toNat / 2 ^ lo % 2 ^ len := by
    rw [BitVec.extractLsb'_toNat, Nat.shiftRight_eq_div_pow]
  have size := v.isLt
  refine ⟨(toNat_append_eq_add _ _).trans ?_, (toNat_append_eq_add _ _).trans ?_,
    (toNat_append_eq_add _ _).trans ?_⟩
  · rw [bits]
    omega
  · rw [toNat_append_eq_add, bits, bits]
    omega
  · rw [bits]
    omega

theorem word48_setWord48 (v : BitVec 48) {k j : Nat} (hk : k < 3) (hj : j < 3) (w : Word) :
    word48 (setWord48 v k w) j = if k = j then w else word48 v j := by
  obtain ⟨first, middle, last⟩ := setWord48_toNat v w
  have := w.isLt
  apply BitVec.eq_of_toNat_eq
  by_cases same : k = j
  · rw [if_pos same, word48_toNat, ← same]
    interval_cases k <;> simp only [first, middle, last] <;> omega
  · rw [if_neg same, word48_toNat, word48_toNat]
    obtain below | above := Nat.lt_or_gt_of_ne same
    · interval_cases j <;> interval_cases k <;> simp only [first, middle] <;> omega
    · refine congrArg (· % 2 ^ 16) ?_
      interval_cases k <;> interval_cases j <;> simp only [middle, last] <;> omega

/-! ### Reads -/

theorem registerWord_format (s : State) (rdy : Bool) {addr : BitVec 6} (lo : 0x08 ≤ addr.toNat)
    (hi : addr.toNat ≤ 0x14) : s.registerWord rdy addr = s.fmt.read addr.toNat := by
  unfold State.registerWord
  generalize addr.toNat = a at lo hi ⊢
  interval_cases a <;> rfl

theorem Format.read_sync {f : Format} (inside : f.InRange) : f.read 0x0E
    = BitVec.ofNat 16 (f.syncLen + 64 * f.tolSearch + 512 * f.tolCheck + 4096 * f.tolLock) := by
  simp only [InRange] at inside
  rw [read, placed_zero, ofNat_or_placed (by omega), ofNat_or_placed (by omega),
    ofNat_or_placed (by omega)]
  rfl

theorem Format.read_word {f : Format} (inside : f.InRange) :
    f.read 0x0F = BitVec.ofNat 16 (f.wpf + 1024 * f.wlen) := by
  simp only [InRange] at inside
  rw [read, placed_zero, ofNat_or_placed (by omega)]
  rfl

theorem Format.read_lock {f : Format} (inside : f.InRange) : f.read 0x10
    = BitVec.ofNat 16 (f.checkCount + 16 * f.lockMiss + 256 * f.sfCheckCount + 4096 * f.sfMiss) := by
  simp only [InRange] at inside
  rw [read, placed_zero, ofNat_or_placed (by omega), ofNat_or_placed (by omega),
    ofNat_or_placed (by omega)]
  rfl

theorem Format.read_major {f : Format} (inside : f.InRange) : f.read 0x11
    = BitVec.ofNat 16 (f.depth + 512 * f.slipWin + (if f.inputInvert then 2048 else 0)
        + (if f.clockEdge = .falling then 4096 else 0)) := by
  simp only [InRange] at inside
  rw [read, placed_zero, ofNat_or_placed (by omega), ofNat_or_placedBit (by omega),
    ofNat_or_placedBit (by split <;> omega)]
  simp only [decide_eq_true_eq]
  rfl

theorem Format.read_sfid {f : Format} (inside : f.InRange) : f.read 0x12
    = BitVec.ofNat 16 (f.sfidPos + (if f.sfidDir = .down then 1024 else 0)) := by
  simp only [InRange] at inside
  rw [read, placed_zero, ofNat_or_placedBit (by omega)]
  simp only [decide_eq_true_eq]
  rfl

theorem Format.read_sfidField {f : Format} (inside : f.InRange) : f.read 0x13
    = BitVec.ofNat 16 (f.sfidLsb + 16 * f.sfidWidth + 256 * f.sfidBase) := by
  simp only [InRange] at inside
  rw [read, placed_zero, ofNat_or_placed (by omega), ofNat_or_placed (by omega)]
  rfl

theorem Format.read_clkloss (f : Format) : f.read 0x14 = BitVec.ofNat 16 f.clklossUs :=
  placed_zero _

/-! ### Writes -/

/-- The bits of a frame format register that Table 12-1 assigns. -/
def formatMask (addr : Nat) : Word :=
  match addr with
  | 0x0E | 0x0F => 0x7FFF
  | 0x10 => 0xF7FF
  | 0x11 => 0x1FFF
  | 0x12 => 0x07FF
  | _ => 0xFFFF

/-- A register reads back what a write asks for, unassigned bits as 0 (R182). -/
theorem Format.read_asked (f : Format) {addr : Nat} (lo : 0x08 ≤ addr) (hi : addr ≤ 0x13) (w : Word) :
    (f.asked addr w).read addr = w &&& formatMask addr := by
  have whole : w &&& 0xFFFF = w := BitVec.and_allOnes
  have word (v : BitVec 48) (k : Nat) (hk : k < 3) : word48 (setWord48 v k w) k = w &&& 0xFFFF := by
    rw [word48_setWord48 v hk hk, if_pos rfl, whole]
  interval_cases addr
  · exact word _ 0 (by decide)
  · exact word _ 1 (by decide)
  · exact word _ 2 (by decide)
  · exact word _ 0 (by decide)
  · exact word _ 1 (by decide)
  · exact word _ 2 (by decide)
  all_goals
    simp only [asked, read, edgeOf, decide_ite_eq (x := ClockEdge.falling) (y := .rising) nofun,
      decide_ite_eq (x := SfidDir.down) (y := .up) nofun, placed_bitField, placedBit_bitAt,
      ← BitVec.and_or_distrib_left]
    exact congrArg (w &&& ·) (by decide)

/-- A write to one word of SYNC_PATTERN or SYNC_MASK sets that word alone (R183). -/
theorem Format.asked_sync (f : Format) {addr : Nat} (lo : 0x08 ≤ addr) (hi : addr ≤ 0x0D) (w : Word)
    {j : Nat} (hj : j < 3) :
    word48 (f.asked addr w).syncPattern j
        = (if addr = 0x08 + j then w else word48 f.syncPattern j)
      ∧ word48 (f.asked addr w).syncMask j
        = (if addr = 0x0B + j then w else word48 f.syncMask j) := by
  have here (base : Nat) (v : BitVec 48) {k : Nat} (hk : k < 3) :
      word48 (setWord48 v k w) j = if base + k = base + j then w else word48 v j := by
    rw [word48_setWord48 v hk hj]
    exact if_congr Nat.add_left_cancel_iff.symm rfl rfl
  interval_cases addr
  · exact ⟨here 8 _ (by decide), (if_neg (by omega)).symm⟩
  · exact ⟨here 8 _ (by decide), (if_neg (by omega)).symm⟩
  · exact ⟨here 8 _ (by decide), (if_neg (by omega)).symm⟩
  · exact ⟨(if_neg (by omega)).symm, here 11 _ (by decide)⟩
  · exact ⟨(if_neg (by omega)).symm, here 11 _ (by decide)⟩
  · exact ⟨(if_neg (by omega)).symm, here 11 _ (by decide)⟩

theorem Format.asked_frame (f : Format) {addr : Nat} (lo : 0x08 ≤ addr) (hi : addr ≤ 0x0D) (w : Word) :
    f.asked addr w = { f with syncPattern := (f.asked addr w).syncPattern
                              syncMask := (f.asked addr w).syncMask } := by
  interval_cases addr <;> rfl

theorem Format.asked_inRange {f : Format} (inside : f.InRange) {addr : Nat} (lo : 0x08 ≤ addr)
    (hi : addr ≤ 0x0D) (w : Word) : (f.asked addr w).InRange := by
  rw [f.asked_frame lo hi]
  exact inside

theorem hostWrite_format (s : State) {addr : BitVec 6} (lo : 0x08 ≤ addr.toNat) (hi : addr.toNat ≤ 0x13)
    (w : Word) : hostWrite addr w s = writeFormat addr.toNat w s := by
  unfold hostWrite
  generalize addr.toNat = a at lo hi ⊢
  interval_cases a <;> rfl

/-- A write to a frame format register in IDLE: the format asked for, or RANGE (R4, R5). -/
theorem writeFormat_idle {s : State} (idle : s.run = .idle) (inside : s.fmt.InRange) {addr : Nat}
    (lo : 0x08 ≤ addr) (hi : addr ≤ 0x13) (w : Word) :
    ((s.fmt.asked addr w).InRange → writeFormat addr w s = { s with fmt := s.fmt.asked addr w })
      ∧ (¬ (s.fmt.asked addr w).InRange → writeFormat addr w s = hostError .range s) := by
  have taken (g : Format) := s.fmt.write_eq_some_iff (g := g) inside lo hi w
  rw [writeFormat, if_neg (by simp [idle])]
  refine ⟨fun sound => ?_, fun beyond => ?_⟩
  · rw [(taken _).2 ⟨rfl, sound⟩]
  · cases asked : s.fmt.write addr w with
    | none => rfl
    | some g => exact absurd ((taken g).1 asked).2 beyond

theorem exec_clklossUsWrite_idle {s : State} (released : s.resetAsserted = false) (idle : s.run = .idle)
    (w : Word) :
    exec (.clklossUsWrite w) s = .next { s with
      fmt := { s.fmt with clklossUs := w.toNat }
      clock := { s.clock with
        timer := if 0 < w.toNat ∧ s.clock.present = true then .running 0 else .stopped } } := by
  rw [exec_released _ s released, effectOf, writeClkloss, if_neg (by simp [idle]), ClockMonitor.rewrite]
  simp only [Nat.pos_iff_ne_zero]

/-- Settles O49: the write takes what it asks for, and the registers read their fields. -/
theorem formatRegistersWrittenWholeReadBack : Obligations.FormatRegistersWrittenWholeReadBack := by
  intro s addr w rdy released inWindow inside
  obtain ⟨lo, hi⟩ : 0x08 ≤ addr.toNat ∧ addr.toNat ≤ 0x13 := by simpa [formatAddress] using inWindow
  have write : exec (.formatRegisterWrite addr w) s = .next (writeFormat addr.toNat w s) := by
    rw [exec_released _ s released, effectOf, hostWrite_format s lo hi]
  have read (t : State) (h : t.resetAsserted = false) :
      readRegister rdy addr t = some (t.fmt.read addr.toNat) := by
    rw [readRegister_released rdy addr t h, registerWord_format t rdy lo (by omega)]
  have readClkloss (t : State) (h : t.resetAsserted = false) :
      readRegister rdy 0x14 t = some (BitVec.ofNat 16 t.fmt.clklossUs) := by
    rw [readRegister_released rdy 0x14 t h, registerWord_format t rdy (by decide) (by decide)]
    exact congrArg some t.fmt.read_clkloss
  refine ⟨fun running => ?_, fun idle => exec_clklossUsWrite_idle released idle w, ?_⟩
  · rw [exec_released _ s released, effectOf, writeClkloss, if_pos running]
  intro n candidate
  have asked (late : 0x0E ≤ addr.toNat) : candidate = s.fmt.asked addr.toNat w := by
    simp only [candidate, n]
    generalize addr.toNat = a at late hi ⊢
    interval_cases a <;> simp [Format.asked, bitField_high, bitField_eq _ _ 2, bitField_eq _ _ 3,
      bitField_eq _ _ 4, bitField_eq _ _ 5, bitField_eq _ _ 6, bitField_eq _ _ 9, bitField_eq _ _ 10,
      edgeOf, bitAt]
  have taken (idle : s.run = .idle) (sound : (s.fmt.asked addr.toNat w).InRange) :
      exec (.formatRegisterWrite addr w) s = .next { s with fmt := s.fmt.asked addr.toNat w } := by
    rw [write, (writeFormat_idle idle inside lo hi w).1 sound]
  refine ⟨fun running => ?_, fun idle late => ?_, fun idle early => ?_, fun idle sound => ?_,
    fun idle => ?_, readClkloss s released, ?_⟩
  · rw [write, writeFormat, if_pos running]
  · rw [asked late]
    refine ⟨taken idle, fun beyond => ?_⟩
    rw [write, (writeFormat_idle idle inside lo hi w).2 beyond]
  · exact ⟨_, taken idle (Format.asked_inRange inside lo early w),
      congrArg (fun f => { s with fmt := f }) (s.fmt.asked_frame lo early w),
      fun j hj => s.fmt.asked_sync lo early w hj⟩
  · have isSound : (s.fmt.asked addr.toNat w).InRange := by
      by_cases early : addr.toNat ≤ 0x0D
      · exact Format.asked_inRange inside lo early w
      · exact asked (by omega) ▸ sound.resolve_left early
    exact ⟨_, taken idle isSound,
      (read { s with fmt := s.fmt.asked addr.toNat w } released).trans
        (congrArg some (s.fmt.read_asked lo hi w))⟩
  · refine ⟨_, exec_clklossUsWrite_idle released idle w, (readClkloss _ ?_).trans (congrArg some ?_)⟩
    · exact released
    · exact (BitVec.ofNat_toNat 16 w).trans w.setWidth_eq
  · rw [read s released]
    refine congrArg some ?_
    generalize addr.toNat = a at lo hi ⊢
    interval_cases a
    · exact word48_eq _ 0
    · exact word48_eq _ 1
    · exact (word48_eq _ 2).trans (by simp)
    · exact word48_eq _ 0
    · exact word48_eq _ 1
    · exact (word48_eq _ 2).trans (by simp)
    · exact Format.read_sync inside
    · exact Format.read_word inside
    · exact Format.read_lock inside
    · exact Format.read_major inside
    · exact Format.read_sfid inside
    · exact Format.read_sfidField inside

end Sys2Proof.Machine
end

section
/-! PROOF. The remaining register writes (R138, R164, R166, R167, R169, R173, R178) and what the remaining
registers read (Tables 12-1, 12-2). -/

namespace Sys2Proof.Machine

/-! ### Writes -/

/-- A code outside 01h to 0Ah names no command (R178). -/
theorem commandOf_unnamed {code : BitVec 8} (unnamed : code.toNat = 0 ∨ 0x0A < code.toNat) (s : State) :
    commandOf code s = (.refusedCode, s) := by
  unfold commandOf
  generalize code.toNat = c at unnamed
  split
  case h_11 => rfl
  all_goals omega

theorem hostWrite_readOnly {addr : BitVec 6} (w : Word) (s : State)
    (fixed : addr.toNat = 0x00 ∨ (0x02 ≤ addr.toNat ∧ addr.toNat ≤ 0x04)
      ∨ (0x15 ≤ addr.toNat ∧ addr.toNat ≤ 0x21) ∨ (0x23 ≤ addr.toNat ∧ addr.toNat ≤ 0x2A)
      ∨ addr.toNat = 0x2D ∨ addr.toNat = 0x2E ∨ addr.toNat = 0x32 ∨ addr.toNat = 0x3F) :
    hostWrite addr w s = hostError .readOnly s := by
  unfold hostWrite
  generalize addr.toNat = a at fixed
  split
  case h_36 => rfl
  all_goals omega

theorem exec_registerWrite {addr at' : BitVec 6} (same : addr.toNat = at'.toNat) (w : Word) {s : State}
    (released : s.resetAsserted = false) :
    exec (.registerWrite addr w) s = .next (hostWrite at' w s) := by
  rw [exec_released _ s released, effectOf, BitVec.eq_of_toNat_eq same]

theorem EventUnit.marker_setMarker (ev : EventUnit) {n m : Nat} (hn : n < 4) (hm : m < 4) (x : Marker) :
    (ev.setMarker n x).marker m = if m = n then x else ev.marker m := by
  interval_cases n <;> interval_cases m <;> rfl

theorem EventUnit.setMarker_frame (ev : EventUnit) (n : Nat) (x : Marker) :
    ev.setMarker n x = { ev with
      marker0 := (ev.setMarker n x).marker0, marker1 := (ev.setMarker n x).marker1
      marker2 := (ev.setMarker n x).marker2, marker3 := (ev.setMarker n x).marker3 } := by
  unfold setMarker
  split <;> rfl

theorem hostWrite_markPos {addr : BitVec 6} {n : Nat} (hn : n < 4) (at' : addr.toNat = 0x36 + n) (w : Word)
    (s : State) : hostWrite addr w s = writeMarkPos n w s := by
  unfold hostWrite
  rw [at']
  interval_cases n <;> rfl

theorem hostWrite_markCtl {addr : BitVec 6} {n : Nat} (hn : n < 4) (at' : addr.toNat = 0x3A + n) (w : Word)
    (s : State) : hostWrite addr w s = { s with ev := s.ev.writeMarkCtl n w } := by
  unfold hostWrite
  rw [at']
  interval_cases n <;> rfl

/-! ### Reads -/

theorem word_eq_ofNat (w : Word) : w = BitVec.ofNat 16 w.toNat :=
  ((BitVec.ofNat_toNat 16 w).trans w.setWidth_eq).symm

theorem placed_two {a lo : Nat} (below : a < 2 ^ lo) (b : Nat) :
    placed a 0 ||| placed b lo = BitVec.ofNat 16 (a + 2 ^ lo * b) := by
  rw [placed_zero, ofNat_or_placed below]

theorem placed_marked {a lo : Nat} (below : a < 2 ^ lo) :
    placed a 0 ||| placedBit true lo = BitVec.ofNat 16 (a + 2 ^ lo) := by
  rw [placed_zero, ofNat_or_placedBit below, if_pos rfl]

theorem RunState.code_eq (r : RunState) : r.code = if r = .run then 1 else 0 := by cases r <;> rfl

theorem statusWord (r : RunState) (y : SyncState) (u : SubState) :
    placed r.code 0 ||| placed y.code 1 ||| placed u.code 4
      = BitVec.ofNat 16 ((if r = .run then 1 else 0) + 2 * y.code + 16 * u.code) := by
  rw [← r.code_eq]
  exact placed_three (lo := 1) (hi := 4) (by cases r <;> decide) (by cases r <;> cases y <;> decide)

theorem swapWord (which : Bank) (w : SwapState) :
    placed which.code 0 ||| placed w.code 1
      = BitVec.ofNat 16 ((if which = .a then 0 else 1) + 2 * w.code) := by
  cases which <;> cases w <;> rfl

theorem faultWord {f : MapFault} (below : f.location < 1024) :
    placed f.location 0 ||| placed f.reason.code 10 ||| placed f.bank.code 15
      = BitVec.ofNat 16 (f.location + 1024 * f.reason.code
        + 32768 * if f.bank = .a then 0 else 1) := by
  have reason : f.reason.code ≤ 4 := by cases f.reason <;> decide
  have bank : f.bank.code = if f.bank = .a then 0 else 1 := by cases f.bank <;> rfl
  rw [← bank]
  exact placed_three (lo := 10) (hi := 15) below (by omega)

theorem routeWord (requested active : Route) :
    placed requested.code 0 ||| placed active.code 1 ||| placedBit (decide (requested ≠ active)) 2
      = BitVec.ofNat 16 ((if requested = .host then 0 else 1) + 2 * (if active = .host then 0 else 1)
        + if requested = active then 0 else 4) := by
  cases requested <;> cases active <;> rfl

theorem portWord (mode : PortMode) (rdy : Bool) :
    placed mode.code 0 ||| placedBit rdy 2 = BitVec.ofNat 16 (mode.code + if rdy then 4 else 0) := by
  cases mode <;> cases rdy <;> rfl

theorem errorCode_eq (e : Option HostError) :
    (e.map HostError.code).getD 0 = match e with
      | none => 0 | some .range => 1 | some .state => 2 | some .readOnly => 3
      | some .bankActive => 4 | some .bankBusy => 5 | some .qdataEmpty => 6
      | some .tableAddress => 7 | some .profileInvalid => 8 := by
  cases e with
  | none => rfl
  | some e => cases e <;> rfl

theorem Marker.ctlWord_eq (m : Marker) : m.ctlWord = BitVec.ofNat 16 (m.phase.toNat
    + (if m.any then 256 else 0) + (if m.action = .statusAndRecord then 512 else 0)) := by
  have phase := m.phase.isLt
  rw [ctlWord, ← BitVec.ofNat_toNat, ofNat_or_placedBit phase, ofNat_or_placedBit (by split <;> omega)]
  simp only [decide_eq_true_eq]
  rfl

/-- Settles O54: the writes one by one, and each register's word as its fields. -/
theorem remainingWritesAndRegisterReads : Obligations.RemainingWritesAndRegisterReads := by
  intro s addr w rdy released a reads bank route write
  have wrote {at' : BitVec 6} (same : a = at'.toNat) : write = .next (hostWrite at' w s) :=
    exec_registerWrite same w released
  have low {len : Nat} (small : len ≤ 16) : w.setWidth len = w.extractLsb' 0 len :=
    BitVec.setWidth_eq_extractLsb' small
  have position : bitField w 0 10 = w.toNat % 1024 := by simp [bitField_eq]
  have read {at' : BitVec 6} {n : Nat} (word : s.registerWord rdy at' = BitVec.ofNat 16 n) :
      reads at' n := (readRegister_released rdy at' s released).trans (congrArg some word)
  have number (at' : BitVec 6) {n : Nat} (word : s.registerWord rdy at' = placed n 0) : reads at' n :=
    read (word.trans (placed_zero n))
  have whole (at' : BitVec 6) {x : Word} (word : s.registerWord rdy at' = x) : reads at' x.toNat :=
    read (word.trans (word_eq_ofNat x))
  have marker (c d : BitVec 6) (m : Marker) (first : s.registerWord rdy c = placed m.position 0)
      (second : s.registerWord rdy d = m.ctlWord) : reads c m.position ∧ reads d (m.phase.toNat
        + (if m.any then 256 else 0) + (if m.action = .statusAndRecord then 512 else 0)) :=
    ⟨number c first, read (second.trans m.ctlWord_eq)⟩
  refine ⟨fun unnamed => ?unnamed, fun fixed => ?fixed, fun here small => ?threshold,
    fun here big => ?thresholdBeyond, fun here => ?latchedEnable, fun here => ?levelEnable,
    wrote (at' := 0x34), fun here => ?recordMask, fun n hn here => ⟨fun beyond => ?markPosBeyond, fun inside => ?markPos⟩,
    fun n hn here => ?markCtl, read (statusWord _ _ _), read rfl, ?command, ?error, whole 0x04 rfl,
    number 0x05 rfl, number 0x06 rfl,
    ⟨_, exec_released .tdataRead s released, readRegister_released rdy 0x07 s released⟩,
    fun good _ => read (placed_two (lo := 4) good _), whole 0x16 rfl, whole 0x17 rfl, whole 0x18 rfl,
    fun good _ => read (placed_two (lo := 4) (by omega) _), fun unknown => ⟨read ?noPhase, read ?noSfid⟩,
    fun p known small => ⟨read ?phase, read ?sfid⟩, read (swapWord _ _), fun small => read (faultWord small),
    whole 0x1E rfl, whole 0x1F rfl, whole 0x20 rfl, whole 0x21 rfl, number 0x22 rfl,
    fun resting => read ?noCapture, fun c capturing small => read ?capture, number 0x24 rfl, whole 0x25 rfl,
    number 0x26 rfl, number 0x27 rfl, fun empty => read ?noHead, fun record rest store => read ?head,
    whole 0x29 rfl, whole 0x2A rfl, number 0x2B rfl, read (routeWord _ _),
    ⟨_, exec_released .qdataRead s released, readRegister_released rdy 0x2D s released⟩,
    read (portWord _ _), fun small => read (placed_two (lo := 8) small _), ?markers,
    read (BitVec.ofNat_toNat 16 s.ev.hits).symm, read rfl⟩
  case unnamed =>
    have code : (w.setWidth 8).toNat = w.toNat % 256 := BitVec.toNat_setWidth 8 w
    rw [exec_released _ s released, effectOf, writeCmd, commandOf_unnamed (by rwa [code])]
    rfl
  case fixed =>
    rw [wrote (at' := addr) rfl, hostWrite_readOnly w s fixed]
  case threshold => exact (wrote (at' := 0x2B) here).trans (congrArg Host.Outcome.next (if_pos small))
  case thresholdBeyond =>
    exact (wrote (at' := 0x2B) here).trans (congrArg Host.Outcome.next (if_neg (Nat.not_le.2 big)))
  case latchedEnable => exact (wrote (at' := 0x31) here).trans (by rw [← low (by decide)]; rfl)
  case levelEnable => exact (wrote (at' := 0x33) here).trans (by rw [← low (by decide)]; rfl)
  case recordMask => exact (wrote (at' := 0x35) here).trans (by rw [← low (by decide)]; rfl)
  case markPosBeyond =>
    rw [wrote (at' := addr) rfl, hostWrite_markPos hn here, writeMarkPos, EventUnit.writeMarkPos, position,
      if_neg (by omega)]
  case markPos =>
    rw [wrote (at' := addr) rfl, hostWrite_markPos hn here, writeMarkPos, EventUnit.writeMarkPos, position,
      if_pos inside]
    refine ⟨_, rfl, s.ev.setMarker_frame n _, fun m hm => ?_⟩
    rw [s.ev.marker_setMarker hn hm]
    by_cases same : m = n
    · rw [if_pos same, if_pos same, same]
    · rw [if_neg same, if_neg same]
  case markCtl =>
    rw [wrote (at' := addr) rfl, hostWrite_markCtl hn here, EventUnit.writeMarkCtl, low (by decide)]
    refine ⟨_, rfl, s.ev.setMarker_frame n _, fun m hm => ?_⟩
    rw [s.ev.marker_setMarker hn hm]
    by_cases same : m = n
    · rw [if_pos same, if_pos same, same]
      rfl
    · rw [if_neg same, if_neg same]
  case command =>
    refine read (n := s.host.cmdCode.toNat + 2 ^ 8 * s.host.cmdResult.code) ?_
    rw [← ofNat_or_placed s.host.cmdCode.isLt, BitVec.ofNat_toNat]
    rfl
  case error => exact read ((placed_zero _).trans (congrArg (BitVec.ofNat 16) (errorCode_eq _)))
  case noPhase =>
    show placed (s.sf.held.getD 0) 0 ||| placedBit s.sf.held.isSome 15 = _
    rw [unknown]
    rfl
  case noSfid =>
    show placed ((s.sf.held.map s.fmt.sfidOfPhase).getD 0) 0 = _
    rw [unknown]
    rfl
  case phase =>
    show placed (s.sf.held.getD 0) 0 ||| placedBit s.sf.held.isSome 15 = _
    rw [known]
    exact placed_marked (a := p) (by omega)
  case sfid =>
    show placed ((s.sf.held.map s.fmt.sfidOfPhase).getD 0) 0 = _
    rw [known]
    exact placed_zero _
  case noCapture =>
    show placed ((s.cap.current.map _).getD 0) 0 ||| placedBit s.cap.current.isSome 15 = _
    rw [resting]
    rfl
  case capture =>
    show placed ((s.cap.current.map _).getD 0) 0 ||| placedBit s.cap.current.isSome 15 = _
    rw [capturing]
    exact placed_marked (a := c.buffer.length) (by omega)
  case noHead =>
    show placed ((s.queue.store.headD []).length - s.queue.consumed) 0 = _
    rw [empty, placed_zero]
    exact congrArg (BitVec.ofNat 16) (Nat.zero_sub _)
  case head =>
    show placed ((s.queue.store.headD []).length - s.queue.consumed) 0 = _
    rw [store, placed_zero]
    rfl
  case markers =>
    simp only [List.forall_mem_cons, List.not_mem_nil, false_imp_iff, implies_true, and_true]
    exact ⟨marker _ _ _ rfl rfl, marker _ _ _ rfl rfl, marker _ _ _ rfl rfl, marker _ _ _ rfl rfl⟩

end Sys2Proof.Machine
end
